-- ==== Sys2Proof/Word.lean ====
section
/-! DEFINITION. The machine's words: bytes and 16-bit words, and how a word is made of two bytes (R8, R31). -/

namespace Sys2Proof

/-- A byte: a general register, a memory cell (R30, R44). -/
abbrev Byte := BitVec 8

/-- A 16-bit word: an address, SP, PC, a register pair (R30, R100). -/
abbrev Word := BitVec 16

/-- `hi:lo`, the concatenation of two bytes with `hi` above (R8). -/
def wordOf (hi lo : Byte) : Word := BitVec.ofNat 16 (hi.toNat * 256 + lo.toNat)

/-- `v[15:8]` (R8). -/
def hiByte (v : Word) : Byte := BitVec.ofNat 8 (v.toNat / 256)

/-- `v[7:0]` (R8). -/
def loByte (v : Word) : Byte := BitVec.ofNat 8 v.toNat

end Sys2Proof
end

