-- ==== Sys2Proof/Codes.lean ====
section
/-! DEFINITION. The names that the opcode fields select: registers, operands, conditions, operations (R153–R164). -/

namespace Sys2Proof

/-- The seven 8-bit registers of the code `r8[c]` (R153). F has no code. -/
inductive Reg8 where
  | a | b | c | d | e | h | l
  deriving DecidableEq, Repr

/-- What the 3-bit code `r8[c]` names: a register, or (code 6) the byte at address HL (R153). -/
inductive Operand8 where
  | reg (r : Reg8)
  | atHl
  deriving DecidableEq, Repr

/-- The 16-bit code `r16[p]` (R154). -/
inductive Reg16 where
  | bc | de | hl | sp
  deriving DecidableEq, Repr

/-- The stack code `r16stk[p]` of PUSH and POP (R155). -/
inductive StackReg where
  | bc | de | hl | af
  deriving DecidableEq, Repr

/-- The indirect code `r16mem[p]` (R156): an address, and what becomes of HL. -/
inductive MemReg where
  | bc | de | hlInc | hlDec
  deriving DecidableEq, Repr

/-- The condition code `cc[c]` (R157, R360). -/
inductive Cond where
  | nz | z | nc | c
  deriving DecidableEq, Repr

/-- The eight operations on A, in the order of the field `y` (R161). -/
inductive AluOp where
  | add | adc | sub | sbc | and | xor | or | cp
  deriving DecidableEq, Repr

/-- The eight shift and rotate operations, in the order of the field `y` (R163). -/
inductive ShiftOp where
  | rlc | rrc | rl | rr | sla | sra | swap | srl
  deriving DecidableEq, Repr

/-- The eleven unused opcodes of the standard table (R164). -/
inductive UnusedOpcode where
  | d3 | db | dd | e3 | e4 | eb | ec | ed | f4 | fc | fd
  deriving DecidableEq, Repr

end Sys2Proof
end

