-- ==== Sys2Proof/Config.lean ====
section
/-! DEFINITION. What an implementation fixes: the parameters of R7, which "are taken by the model as arguments", as plain
data, and the one parameter the spec leaves OPEN, as a constant that nothing can evaluate. -/

namespace Sys2Proof

/-- Which path the DMA copy reads its source through: `DMA_SOURCE_PATH` (R7, R108). -/
inductive DmaSourcePath where
  | decoded
  | raw
  deriving DecidableEq, Repr

/-- The parameters of one machine (R7). The defaults are the spec's. -/
structure Config where
  /-- `HALT_CYCLE_SYNC`: a halted CPU is charged 4 T-cycles per idle tick (R419, D5). -/
  haltCycleSync : Bool := false
  /-- `DMA_SOURCE_PATH` (R108, D20). -/
  dmaSourcePath : DmaSourcePath := .decoded
  /-- `BG_ENABLE_GATES`: LCDC bit 0 gates background and window (R512, D28). -/
  bgEnableGates : Bool := true
  /-- `OBJ_ENABLE_GATES`: LCDC bit 1 gates objects (R522, D28). -/
  objEnableGates : Bool := true
  /-- `InitMem`: where the array before the cartridge is loaded differs from the profile `DMG_POST_BOOT` (R69, D12). The
  default is the profile itself. -/
  initMem : List Host.Cell := []
  deriving DecidableEq, Repr

/-- `ShadeColor : {0,1,2,3} → RGBA`, OPEN (R523, D27): a colour of 32 bits for each shade, about which nothing is known.
DESIGN CHOICE, safe (log entry 9). -/
opaque Config.shadeColor : BitVec 2 → BitVec 32

end Sys2Proof
end

