-- ==== Sys2Proof/Syntax.lean ====
section
/-! DEFINITION. The instructions: one constructor for each of the 512 rows of the opcode table (R151, R168).
A constructor carries the operand bytes its row has after the opcode: `n`, `a`, `e` one byte (R158), `n : Word` two.
The rows with operand bytes stand first, the others after them, each in the table's order (Lean's compiler numbers a
constructor that carries data with a small tag). `at` in a name is the table's parenthesis: `ldAtHlB` is `LD (HL),B`. -/

namespace Sys2Proof

inductive Instr where
  /-- `LD BC,n16`, 0x01 (R242). -/
  | ldBcN16 (n : Word)
  /-- `LD B,n8`, 0x06 (R202). -/
  | ldBN8 (n : Byte)
  /-- `LD (n16),SP`, 0x08 (R243). -/
  | ldAtN16Sp (n : Word)
  /-- `LD C,n8`, 0x0E (R202). -/
  | ldCN8 (n : Byte)
  /-- `STOP`, 0x10 (R392). -/
  | stop (ignored : Byte)
  /-- `LD DE,n16`, 0x11 (R242). -/
  | ldDeN16 (n : Word)
  /-- `LD D,n8`, 0x16 (R202). -/
  | ldDN8 (n : Byte)
  /-- `JR e8`, 0x18 (R364). -/
  | jrE8 (e : Byte)
  /-- `LD E,n8`, 0x1E (R202). -/
  | ldEN8 (n : Byte)
  /-- `JR NZ,e8`, 0x20 (R365). -/
  | jrNzE8 (e : Byte)
  /-- `LD HL,n16`, 0x21 (R242). -/
  | ldHlN16 (n : Word)
  /-- `LD H,n8`, 0x26 (R202). -/
  | ldHN8 (n : Byte)
  /-- `JR Z,e8`, 0x28 (R365). -/
  | jrZE8 (e : Byte)
  /-- `LD L,n8`, 0x2E (R202). -/
  | ldLN8 (n : Byte)
  /-- `JR NC,e8`, 0x30 (R365). -/
  | jrNcE8 (e : Byte)
  /-- `LD SP,n16`, 0x31 (R242). -/
  | ldSpN16 (n : Word)
  /-- `LD (HL),n8`, 0x36 (R205). -/
  | ldAtHlN8 (n : Byte)
  /-- `JR C,e8`, 0x38 (R365). -/
  | jrCE8 (e : Byte)
  /-- `LD A,n8`, 0x3E (R202). -/
  | ldAN8 (n : Byte)
  /-- `JP NZ,n16`, 0xC2 (R362). -/
  | jpNzN16 (n : Word)
  /-- `JP n16`, 0xC3 (R361). -/
  | jpN16 (n : Word)
  /-- `CALL NZ,n16`, 0xC4 (R367). -/
  | callNzN16 (n : Word)
  /-- `ADD A,n8`, 0xC6 (R265). -/
  | addAN8 (n : Byte)
  /-- `JP Z,n16`, 0xCA (R362). -/
  | jpZN16 (n : Word)
  /-- `CALL Z,n16`, 0xCC (R367). -/
  | callZN16 (n : Word)
  /-- `CALL n16`, 0xCD (R366). -/
  | callN16 (n : Word)
  /-- `ADC A,n8`, 0xCE (R268). -/
  | adcAN8 (n : Byte)
  /-- `JP NC,n16`, 0xD2 (R362). -/
  | jpNcN16 (n : Word)
  /-- `CALL NC,n16`, 0xD4 (R367). -/
  | callNcN16 (n : Word)
  /-- `SUB n8`, 0xD6 (R271). -/
  | subN8 (n : Byte)
  /-- `JP C,n16`, 0xDA (R362). -/
  | jpCN16 (n : Word)
  /-- `CALL C,n16`, 0xDC (R367). -/
  | callCN16 (n : Word)
  /-- `SBC A,n8`, 0xDE (R274). -/
  | sbcAN8 (n : Byte)
  /-- `LDH (a8),A`, 0xE0 (R213). -/
  | ldhAtA8A (a : Byte)
  /-- `AND n8`, 0xE6 (R277). -/
  | andN8 (n : Byte)
  /-- `ADD SP,e8`, 0xE8 (R303). -/
  | addSpE8 (e : Byte)
  /-- `LD (n16),A`, 0xEA (R211). -/
  | ldAtN16A (n : Word)
  /-- `XOR n8`, 0xEE (R280). -/
  | xorN8 (n : Byte)
  /-- `LDH A,(a8)`, 0xF0 (R212). -/
  | ldhAAtA8 (a : Byte)
  /-- `OR n8`, 0xF6 (R283). -/
  | orN8 (n : Byte)
  /-- `LD HL,SP+e8`, 0xF8 (R245). -/
  | ldHlSpE8 (e : Byte)
  /-- `LD A,(n16)`, 0xFA (R210). -/
  | ldAAtN16 (n : Word)
  /-- `CP n8`, 0xFE (R286). -/
  | cpN8 (n : Byte)
  /-- `NOP`, 0x00 (R390). -/
  | nop
  /-- `LD (BC),A`, 0x02 (R208). -/
  | ldAtBcA
  /-- `INC BC`, 0x03 (R301). -/
  | incBc
  /-- `INC B`, 0x04 (R287). -/
  | incB
  /-- `DEC B`, 0x05 (R289). -/
  | decB
  /-- `RLCA`, 0x07 (R320). -/
  | rlca
  /-- `ADD HL,BC`, 0x09 (R300). -/
  | addHlBc
  /-- `LD A,(BC)`, 0x0A (R206). -/
  | ldAAtBc
  /-- `DEC BC`, 0x0B (R302). -/
  | decBc
  /-- `INC C`, 0x0C (R287). -/
  | incC
  /-- `DEC C`, 0x0D (R289). -/
  | decC
  /-- `RRCA`, 0x0F (R321). -/
  | rrca
  /-- `LD (DE),A`, 0x12 (R209). -/
  | ldAtDeA
  /-- `INC DE`, 0x13 (R301). -/
  | incDe
  /-- `INC D`, 0x14 (R287). -/
  | incD
  /-- `DEC D`, 0x15 (R289). -/
  | decD
  /-- `RLA`, 0x17 (R322). -/
  | rla
  /-- `ADD HL,DE`, 0x19 (R300). -/
  | addHlDe
  /-- `LD A,(DE)`, 0x1A (R207). -/
  | ldAAtDe
  /-- `DEC DE`, 0x1B (R302). -/
  | decDe
  /-- `INC E`, 0x1C (R287). -/
  | incE
  /-- `DEC E`, 0x1D (R289). -/
  | decE
  /-- `RRA`, 0x1F (R323). -/
  | rra
  /-- `LD (HL+),A`, 0x22 (R218). -/
  | ldAtHlIncA
  /-- `INC HL`, 0x23 (R301). -/
  | incHl
  /-- `INC H`, 0x24 (R287). -/
  | incH
  /-- `DEC H`, 0x25 (R289). -/
  | decH
  /-- `DAA`, 0x27 (R291). -/
  | daa
  /-- `ADD HL,HL`, 0x29 (R300). -/
  | addHlHl
  /-- `LD A,(HL+)`, 0x2A (R216). -/
  | ldAAtHlInc
  /-- `DEC HL`, 0x2B (R302). -/
  | decHl
  /-- `INC L`, 0x2C (R287). -/
  | incL
  /-- `DEC L`, 0x2D (R289). -/
  | decL
  /-- `CPL`, 0x2F (R292). -/
  | cpl
  /-- `LD (HL-),A`, 0x32 (R219). -/
  | ldAtHlDecA
  /-- `INC SP`, 0x33 (R301). -/
  | incSp
  /-- `INC (HL)`, 0x34 (R288). -/
  | incAtHl
  /-- `DEC (HL)`, 0x35 (R290). -/
  | decAtHl
  /-- `SCF`, 0x37 (R293). -/
  | scf
  /-- `ADD HL,SP`, 0x39 (R300). -/
  | addHlSp
  /-- `LD A,(HL-)`, 0x3A (R217). -/
  | ldAAtHlDec
  /-- `DEC SP`, 0x3B (R302). -/
  | decSp
  /-- `INC A`, 0x3C (R287). -/
  | incA
  /-- `DEC A`, 0x3D (R289). -/
  | decA
  /-- `CCF`, 0x3F (R294). -/
  | ccf
  /-- `LD B,B`, 0x40 (R201). -/
  | ldBB
  /-- `LD B,C`, 0x41 (R201). -/
  | ldBC
  /-- `LD B,D`, 0x42 (R201). -/
  | ldBD
  /-- `LD B,E`, 0x43 (R201). -/
  | ldBE
  /-- `LD B,H`, 0x44 (R201). -/
  | ldBH
  /-- `LD B,L`, 0x45 (R201). -/
  | ldBL
  /-- `LD B,(HL)`, 0x46 (R203). -/
  | ldBAtHl
  /-- `LD B,A`, 0x47 (R201). -/
  | ldBA
  /-- `LD C,B`, 0x48 (R201). -/
  | ldCB
  /-- `LD C,C`, 0x49 (R201). -/
  | ldCC
  /-- `LD C,D`, 0x4A (R201). -/
  | ldCD
  /-- `LD C,E`, 0x4B (R201). -/
  | ldCE
  /-- `LD C,H`, 0x4C (R201). -/
  | ldCH
  /-- `LD C,L`, 0x4D (R201). -/
  | ldCL
  /-- `LD C,(HL)`, 0x4E (R203). -/
  | ldCAtHl
  /-- `LD C,A`, 0x4F (R201). -/
  | ldCA
  /-- `LD D,B`, 0x50 (R201). -/
  | ldDB
  /-- `LD D,C`, 0x51 (R201). -/
  | ldDC
  /-- `LD D,D`, 0x52 (R201). -/
  | ldDD
  /-- `LD D,E`, 0x53 (R201). -/
  | ldDE
  /-- `LD D,H`, 0x54 (R201). -/
  | ldDH
  /-- `LD D,L`, 0x55 (R201). -/
  | ldDL
  /-- `LD D,(HL)`, 0x56 (R203). -/
  | ldDAtHl
  /-- `LD D,A`, 0x57 (R201). -/
  | ldDA
  /-- `LD E,B`, 0x58 (R201). -/
  | ldEB
  /-- `LD E,C`, 0x59 (R201). -/
  | ldEC
  /-- `LD E,D`, 0x5A (R201). -/
  | ldED
  /-- `LD E,E`, 0x5B (R201). -/
  | ldEE
  /-- `LD E,H`, 0x5C (R201). -/
  | ldEH
  /-- `LD E,L`, 0x5D (R201). -/
  | ldEL
  /-- `LD E,(HL)`, 0x5E (R203). -/
  | ldEAtHl
  /-- `LD E,A`, 0x5F (R201). -/
  | ldEA
  /-- `LD H,B`, 0x60 (R201). -/
  | ldHB
  /-- `LD H,C`, 0x61 (R201). -/
  | ldHC
  /-- `LD H,D`, 0x62 (R201). -/
  | ldHD
  /-- `LD H,E`, 0x63 (R201). -/
  | ldHE
  /-- `LD H,H`, 0x64 (R201). -/
  | ldHH
  /-- `LD H,L`, 0x65 (R201). -/
  | ldHL
  /-- `LD H,(HL)`, 0x66 (R203). -/
  | ldHAtHl
  /-- `LD H,A`, 0x67 (R201). -/
  | ldHA
  /-- `LD L,B`, 0x68 (R201). -/
  | ldLB
  /-- `LD L,C`, 0x69 (R201). -/
  | ldLC
  /-- `LD L,D`, 0x6A (R201). -/
  | ldLD
  /-- `LD L,E`, 0x6B (R201). -/
  | ldLE
  /-- `LD L,H`, 0x6C (R201). -/
  | ldLH
  /-- `LD L,L`, 0x6D (R201). -/
  | ldLL
  /-- `LD L,(HL)`, 0x6E (R203). -/
  | ldLAtHl
  /-- `LD L,A`, 0x6F (R201). -/
  | ldLA
  /-- `LD (HL),B`, 0x70 (R204). -/
  | ldAtHlB
  /-- `LD (HL),C`, 0x71 (R204). -/
  | ldAtHlC
  /-- `LD (HL),D`, 0x72 (R204). -/
  | ldAtHlD
  /-- `LD (HL),E`, 0x73 (R204). -/
  | ldAtHlE
  /-- `LD (HL),H`, 0x74 (R204). -/
  | ldAtHlH
  /-- `LD (HL),L`, 0x75 (R204). -/
  | ldAtHlL
  /-- `HALT`, 0x76 (R391). -/
  | halt
  /-- `LD (HL),A`, 0x77 (R204). -/
  | ldAtHlA
  /-- `LD A,B`, 0x78 (R201). -/
  | ldAB
  /-- `LD A,C`, 0x79 (R201). -/
  | ldAC
  /-- `LD A,D`, 0x7A (R201). -/
  | ldAD
  /-- `LD A,E`, 0x7B (R201). -/
  | ldAE
  /-- `LD A,H`, 0x7C (R201). -/
  | ldAH
  /-- `LD A,L`, 0x7D (R201). -/
  | ldAL
  /-- `LD A,(HL)`, 0x7E (R203). -/
  | ldAAtHl
  /-- `LD A,A`, 0x7F (R201). -/
  | ldAA
  /-- `ADD A,B`, 0x80 (R263). -/
  | addAB
  /-- `ADD A,C`, 0x81 (R263). -/
  | addAC
  /-- `ADD A,D`, 0x82 (R263). -/
  | addAD
  /-- `ADD A,E`, 0x83 (R263). -/
  | addAE
  /-- `ADD A,H`, 0x84 (R263). -/
  | addAH
  /-- `ADD A,L`, 0x85 (R263). -/
  | addAL
  /-- `ADD A,(HL)`, 0x86 (R264). -/
  | addAAtHl
  /-- `ADD A,A`, 0x87 (R263). -/
  | addAA
  /-- `ADC A,B`, 0x88 (R266). -/
  | adcAB
  /-- `ADC A,C`, 0x89 (R266). -/
  | adcAC
  /-- `ADC A,D`, 0x8A (R266). -/
  | adcAD
  /-- `ADC A,E`, 0x8B (R266). -/
  | adcAE
  /-- `ADC A,H`, 0x8C (R266). -/
  | adcAH
  /-- `ADC A,L`, 0x8D (R266). -/
  | adcAL
  /-- `ADC A,(HL)`, 0x8E (R267). -/
  | adcAAtHl
  /-- `ADC A,A`, 0x8F (R266). -/
  | adcAA
  /-- `SUB B`, 0x90 (R269). -/
  | subB
  /-- `SUB C`, 0x91 (R269). -/
  | subC
  /-- `SUB D`, 0x92 (R269). -/
  | subD
  /-- `SUB E`, 0x93 (R269). -/
  | subE
  /-- `SUB H`, 0x94 (R269). -/
  | subH
  /-- `SUB L`, 0x95 (R269). -/
  | subL
  /-- `SUB (HL)`, 0x96 (R270). -/
  | subAtHl
  /-- `SUB A`, 0x97 (R269). -/
  | subA
  /-- `SBC A,B`, 0x98 (R272). -/
  | sbcAB
  /-- `SBC A,C`, 0x99 (R272). -/
  | sbcAC
  /-- `SBC A,D`, 0x9A (R272). -/
  | sbcAD
  /-- `SBC A,E`, 0x9B (R272). -/
  | sbcAE
  /-- `SBC A,H`, 0x9C (R272). -/
  | sbcAH
  /-- `SBC A,L`, 0x9D (R272). -/
  | sbcAL
  /-- `SBC A,(HL)`, 0x9E (R273). -/
  | sbcAAtHl
  /-- `SBC A,A`, 0x9F (R272). -/
  | sbcAA
  /-- `AND B`, 0xA0 (R275). -/
  | andB
  /-- `AND C`, 0xA1 (R275). -/
  | andC
  /-- `AND D`, 0xA2 (R275). -/
  | andD
  /-- `AND E`, 0xA3 (R275). -/
  | andE
  /-- `AND H`, 0xA4 (R275). -/
  | andH
  /-- `AND L`, 0xA5 (R275). -/
  | andL
  /-- `AND (HL)`, 0xA6 (R276). -/
  | andAtHl
  /-- `AND A`, 0xA7 (R275). -/
  | andA
  /-- `XOR B`, 0xA8 (R278). -/
  | xorB
  /-- `XOR C`, 0xA9 (R278). -/
  | xorC
  /-- `XOR D`, 0xAA (R278). -/
  | xorD
  /-- `XOR E`, 0xAB (R278). -/
  | xorE
  /-- `XOR H`, 0xAC (R278). -/
  | xorH
  /-- `XOR L`, 0xAD (R278). -/
  | xorL
  /-- `XOR (HL)`, 0xAE (R279). -/
  | xorAtHl
  /-- `XOR A`, 0xAF (R278). -/
  | xorA
  /-- `OR B`, 0xB0 (R281). -/
  | orB
  /-- `OR C`, 0xB1 (R281). -/
  | orC
  /-- `OR D`, 0xB2 (R281). -/
  | orD
  /-- `OR E`, 0xB3 (R281). -/
  | orE
  /-- `OR H`, 0xB4 (R281). -/
  | orH
  /-- `OR L`, 0xB5 (R281). -/
  | orL
  /-- `OR (HL)`, 0xB6 (R282). -/
  | orAtHl
  /-- `OR A`, 0xB7 (R281). -/
  | orA
  /-- `CP B`, 0xB8 (R284). -/
  | cpB
  /-- `CP C`, 0xB9 (R284). -/
  | cpC
  /-- `CP D`, 0xBA (R284). -/
  | cpD
  /-- `CP E`, 0xBB (R284). -/
  | cpE
  /-- `CP H`, 0xBC (R284). -/
  | cpH
  /-- `CP L`, 0xBD (R284). -/
  | cpL
  /-- `CP (HL)`, 0xBE (R285). -/
  | cpAtHl
  /-- `CP A`, 0xBF (R284). -/
  | cpA
  /-- `RET NZ`, 0xC0 (R369). -/
  | retNz
  /-- `POP BC`, 0xC1 (R247). -/
  | popBc
  /-- `PUSH BC`, 0xC5 (R246). -/
  | pushBc
  /-- `RST $00`, 0xC7 (R371). -/
  | rst00
  /-- `RET Z`, 0xC8 (R369). -/
  | retZ
  /-- `RET`, 0xC9 (R368). -/
  | ret
  /-- `PREFIX CB`, 0xCB (R395). -/
  | prefixCb
  /-- `RST $08`, 0xCF (R371). -/
  | rst08
  /-- `RET NC`, 0xD0 (R369). -/
  | retNc
  /-- `POP DE`, 0xD1 (R247). -/
  | popDe
  /-- `UNUSED_D3`, 0xD3 (R396). -/
  | unusedD3
  /-- `PUSH DE`, 0xD5 (R246). -/
  | pushDe
  /-- `RST $10`, 0xD7 (R371). -/
  | rst10
  /-- `RET C`, 0xD8 (R369). -/
  | retC
  /-- `RETI`, 0xD9 (R370). -/
  | reti
  /-- `UNUSED_DB`, 0xDB (R396). -/
  | unusedDb
  /-- `UNUSED_DD`, 0xDD (R396). -/
  | unusedDd
  /-- `RST $18`, 0xDF (R371). -/
  | rst18
  /-- `POP HL`, 0xE1 (R247). -/
  | popHl
  /-- `LD (C),A`, 0xE2 (R215). -/
  | ldAtCA
  /-- `UNUSED_E3`, 0xE3 (R396). -/
  | unusedE3
  /-- `UNUSED_E4`, 0xE4 (R396). -/
  | unusedE4
  /-- `PUSH HL`, 0xE5 (R246). -/
  | pushHl
  /-- `RST $20`, 0xE7 (R371). -/
  | rst20
  /-- `JP HL`, 0xE9 (R363). -/
  | jpHl
  /-- `UNUSED_EB`, 0xEB (R396). -/
  | unusedEb
  /-- `UNUSED_EC`, 0xEC (R396). -/
  | unusedEc
  /-- `UNUSED_ED`, 0xED (R396). -/
  | unusedEd
  /-- `RST $28`, 0xEF (R371). -/
  | rst28
  /-- `POP AF`, 0xF1 (R248). -/
  | popAf
  /-- `LD A,(C)`, 0xF2 (R214). -/
  | ldAAtC
  /-- `DI`, 0xF3 (R393). -/
  | di
  /-- `UNUSED_F4`, 0xF4 (R396). -/
  | unusedF4
  /-- `PUSH AF`, 0xF5 (R246). -/
  | pushAf
  /-- `RST $30`, 0xF7 (R371). -/
  | rst30
  /-- `LD SP,HL`, 0xF9 (R244). -/
  | ldSpHl
  /-- `EI`, 0xFB (R394). -/
  | ei
  /-- `UNUSED_FC`, 0xFC (R396). -/
  | unusedFc
  /-- `UNUSED_FD`, 0xFD (R396). -/
  | unusedFd
  /-- `RST $38`, 0xFF (R371). -/
  | rst38
  /-- `RLC B`, 0xCB 0x00 (R325). -/
  | rlcB
  /-- `RLC C`, 0xCB 0x01 (R325). -/
  | rlcC
  /-- `RLC D`, 0xCB 0x02 (R325). -/
  | rlcD
  /-- `RLC E`, 0xCB 0x03 (R325). -/
  | rlcE
  /-- `RLC H`, 0xCB 0x04 (R325). -/
  | rlcH
  /-- `RLC L`, 0xCB 0x05 (R325). -/
  | rlcL
  /-- `RLC (HL)`, 0xCB 0x06 (R326). -/
  | rlcAtHl
  /-- `RLC A`, 0xCB 0x07 (R325). -/
  | rlcA
  /-- `RRC B`, 0xCB 0x08 (R327). -/
  | rrcB
  /-- `RRC C`, 0xCB 0x09 (R327). -/
  | rrcC
  /-- `RRC D`, 0xCB 0x0A (R327). -/
  | rrcD
  /-- `RRC E`, 0xCB 0x0B (R327). -/
  | rrcE
  /-- `RRC H`, 0xCB 0x0C (R327). -/
  | rrcH
  /-- `RRC L`, 0xCB 0x0D (R327). -/
  | rrcL
  /-- `RRC (HL)`, 0xCB 0x0E (R328). -/
  | rrcAtHl
  /-- `RRC A`, 0xCB 0x0F (R327). -/
  | rrcA
  /-- `RL B`, 0xCB 0x10 (R329). -/
  | rlB
  /-- `RL C`, 0xCB 0x11 (R329). -/
  | rlC
  /-- `RL D`, 0xCB 0x12 (R329). -/
  | rlD
  /-- `RL E`, 0xCB 0x13 (R329). -/
  | rlE
  /-- `RL H`, 0xCB 0x14 (R329). -/
  | rlH
  /-- `RL L`, 0xCB 0x15 (R329). -/
  | rlL
  /-- `RL (HL)`, 0xCB 0x16 (R330). -/
  | rlAtHl
  /-- `RL A`, 0xCB 0x17 (R329). -/
  | rlA
  /-- `RR B`, 0xCB 0x18 (R331). -/
  | rrB
  /-- `RR C`, 0xCB 0x19 (R331). -/
  | rrC
  /-- `RR D`, 0xCB 0x1A (R331). -/
  | rrD
  /-- `RR E`, 0xCB 0x1B (R331). -/
  | rrE
  /-- `RR H`, 0xCB 0x1C (R331). -/
  | rrH
  /-- `RR L`, 0xCB 0x1D (R331). -/
  | rrL
  /-- `RR (HL)`, 0xCB 0x1E (R332). -/
  | rrAtHl
  /-- `RR A`, 0xCB 0x1F (R331). -/
  | rrA
  /-- `SLA B`, 0xCB 0x20 (R333). -/
  | slaB
  /-- `SLA C`, 0xCB 0x21 (R333). -/
  | slaC
  /-- `SLA D`, 0xCB 0x22 (R333). -/
  | slaD
  /-- `SLA E`, 0xCB 0x23 (R333). -/
  | slaE
  /-- `SLA H`, 0xCB 0x24 (R333). -/
  | slaH
  /-- `SLA L`, 0xCB 0x25 (R333). -/
  | slaL
  /-- `SLA (HL)`, 0xCB 0x26 (R334). -/
  | slaAtHl
  /-- `SLA A`, 0xCB 0x27 (R333). -/
  | slaA
  /-- `SRA B`, 0xCB 0x28 (R335). -/
  | sraB
  /-- `SRA C`, 0xCB 0x29 (R335). -/
  | sraC
  /-- `SRA D`, 0xCB 0x2A (R335). -/
  | sraD
  /-- `SRA E`, 0xCB 0x2B (R335). -/
  | sraE
  /-- `SRA H`, 0xCB 0x2C (R335). -/
  | sraH
  /-- `SRA L`, 0xCB 0x2D (R335). -/
  | sraL
  /-- `SRA (HL)`, 0xCB 0x2E (R336). -/
  | sraAtHl
  /-- `SRA A`, 0xCB 0x2F (R335). -/
  | sraA
  /-- `SWAP B`, 0xCB 0x30 (R337). -/
  | swapB
  /-- `SWAP C`, 0xCB 0x31 (R337). -/
  | swapC
  /-- `SWAP D`, 0xCB 0x32 (R337). -/
  | swapD
  /-- `SWAP E`, 0xCB 0x33 (R337). -/
  | swapE
  /-- `SWAP H`, 0xCB 0x34 (R337). -/
  | swapH
  /-- `SWAP L`, 0xCB 0x35 (R337). -/
  | swapL
  /-- `SWAP (HL)`, 0xCB 0x36 (R338). -/
  | swapAtHl
  /-- `SWAP A`, 0xCB 0x37 (R337). -/
  | swapA
  /-- `SRL B`, 0xCB 0x38 (R339). -/
  | srlB
  /-- `SRL C`, 0xCB 0x39 (R339). -/
  | srlC
  /-- `SRL D`, 0xCB 0x3A (R339). -/
  | srlD
  /-- `SRL E`, 0xCB 0x3B (R339). -/
  | srlE
  /-- `SRL H`, 0xCB 0x3C (R339). -/
  | srlH
  /-- `SRL L`, 0xCB 0x3D (R339). -/
  | srlL
  /-- `SRL (HL)`, 0xCB 0x3E (R340). -/
  | srlAtHl
  /-- `SRL A`, 0xCB 0x3F (R339). -/
  | srlA
  /-- `BIT 0,B`, 0xCB 0x40 (R341). -/
  | bit0B
  /-- `BIT 0,C`, 0xCB 0x41 (R341). -/
  | bit0C
  /-- `BIT 0,D`, 0xCB 0x42 (R341). -/
  | bit0D
  /-- `BIT 0,E`, 0xCB 0x43 (R341). -/
  | bit0E
  /-- `BIT 0,H`, 0xCB 0x44 (R341). -/
  | bit0H
  /-- `BIT 0,L`, 0xCB 0x45 (R341). -/
  | bit0L
  /-- `BIT 0,(HL)`, 0xCB 0x46 (R342). -/
  | bit0AtHl
  /-- `BIT 0,A`, 0xCB 0x47 (R341). -/
  | bit0A
  /-- `BIT 1,B`, 0xCB 0x48 (R341). -/
  | bit1B
  /-- `BIT 1,C`, 0xCB 0x49 (R341). -/
  | bit1C
  /-- `BIT 1,D`, 0xCB 0x4A (R341). -/
  | bit1D
  /-- `BIT 1,E`, 0xCB 0x4B (R341). -/
  | bit1E
  /-- `BIT 1,H`, 0xCB 0x4C (R341). -/
  | bit1H
  /-- `BIT 1,L`, 0xCB 0x4D (R341). -/
  | bit1L
  /-- `BIT 1,(HL)`, 0xCB 0x4E (R342). -/
  | bit1AtHl
  /-- `BIT 1,A`, 0xCB 0x4F (R341). -/
  | bit1A
  /-- `BIT 2,B`, 0xCB 0x50 (R341). -/
  | bit2B
  /-- `BIT 2,C`, 0xCB 0x51 (R341). -/
  | bit2C
  /-- `BIT 2,D`, 0xCB 0x52 (R341). -/
  | bit2D
  /-- `BIT 2,E`, 0xCB 0x53 (R341). -/
  | bit2E
  /-- `BIT 2,H`, 0xCB 0x54 (R341). -/
  | bit2H
  /-- `BIT 2,L`, 0xCB 0x55 (R341). -/
  | bit2L
  /-- `BIT 2,(HL)`, 0xCB 0x56 (R342). -/
  | bit2AtHl
  /-- `BIT 2,A`, 0xCB 0x57 (R341). -/
  | bit2A
  /-- `BIT 3,B`, 0xCB 0x58 (R341). -/
  | bit3B
  /-- `BIT 3,C`, 0xCB 0x59 (R341). -/
  | bit3C
  /-- `BIT 3,D`, 0xCB 0x5A (R341). -/
  | bit3D
  /-- `BIT 3,E`, 0xCB 0x5B (R341). -/
  | bit3E
  /-- `BIT 3,H`, 0xCB 0x5C (R341). -/
  | bit3H
  /-- `BIT 3,L`, 0xCB 0x5D (R341). -/
  | bit3L
  /-- `BIT 3,(HL)`, 0xCB 0x5E (R342). -/
  | bit3AtHl
  /-- `BIT 3,A`, 0xCB 0x5F (R341). -/
  | bit3A
  /-- `BIT 4,B`, 0xCB 0x60 (R341). -/
  | bit4B
  /-- `BIT 4,C`, 0xCB 0x61 (R341). -/
  | bit4C
  /-- `BIT 4,D`, 0xCB 0x62 (R341). -/
  | bit4D
  /-- `BIT 4,E`, 0xCB 0x63 (R341). -/
  | bit4E
  /-- `BIT 4,H`, 0xCB 0x64 (R341). -/
  | bit4H
  /-- `BIT 4,L`, 0xCB 0x65 (R341). -/
  | bit4L
  /-- `BIT 4,(HL)`, 0xCB 0x66 (R342). -/
  | bit4AtHl
  /-- `BIT 4,A`, 0xCB 0x67 (R341). -/
  | bit4A
  /-- `BIT 5,B`, 0xCB 0x68 (R341). -/
  | bit5B
  /-- `BIT 5,C`, 0xCB 0x69 (R341). -/
  | bit5C
  /-- `BIT 5,D`, 0xCB 0x6A (R341). -/
  | bit5D
  /-- `BIT 5,E`, 0xCB 0x6B (R341). -/
  | bit5E
  /-- `BIT 5,H`, 0xCB 0x6C (R341). -/
  | bit5H
  /-- `BIT 5,L`, 0xCB 0x6D (R341). -/
  | bit5L
  /-- `BIT 5,(HL)`, 0xCB 0x6E (R342). -/
  | bit5AtHl
  /-- `BIT 5,A`, 0xCB 0x6F (R341). -/
  | bit5A
  /-- `BIT 6,B`, 0xCB 0x70 (R341). -/
  | bit6B
  /-- `BIT 6,C`, 0xCB 0x71 (R341). -/
  | bit6C
  /-- `BIT 6,D`, 0xCB 0x72 (R341). -/
  | bit6D
  /-- `BIT 6,E`, 0xCB 0x73 (R341). -/
  | bit6E
  /-- `BIT 6,H`, 0xCB 0x74 (R341). -/
  | bit6H
  /-- `BIT 6,L`, 0xCB 0x75 (R341). -/
  | bit6L
  /-- `BIT 6,(HL)`, 0xCB 0x76 (R342). -/
  | bit6AtHl
  /-- `BIT 6,A`, 0xCB 0x77 (R341). -/
  | bit6A
  /-- `BIT 7,B`, 0xCB 0x78 (R341). -/
  | bit7B
  /-- `BIT 7,C`, 0xCB 0x79 (R341). -/
  | bit7C
  /-- `BIT 7,D`, 0xCB 0x7A (R341). -/
  | bit7D
  /-- `BIT 7,E`, 0xCB 0x7B (R341). -/
  | bit7E
  /-- `BIT 7,H`, 0xCB 0x7C (R341). -/
  | bit7H
  /-- `BIT 7,L`, 0xCB 0x7D (R341). -/
  | bit7L
  /-- `BIT 7,(HL)`, 0xCB 0x7E (R342). -/
  | bit7AtHl
  /-- `BIT 7,A`, 0xCB 0x7F (R341). -/
  | bit7A
  /-- `RES 0,B`, 0xCB 0x80 (R343). -/
  | res0B
  /-- `RES 0,C`, 0xCB 0x81 (R343). -/
  | res0C
  /-- `RES 0,D`, 0xCB 0x82 (R343). -/
  | res0D
  /-- `RES 0,E`, 0xCB 0x83 (R343). -/
  | res0E
  /-- `RES 0,H`, 0xCB 0x84 (R343). -/
  | res0H
  /-- `RES 0,L`, 0xCB 0x85 (R343). -/
  | res0L
  /-- `RES 0,(HL)`, 0xCB 0x86 (R344). -/
  | res0AtHl
  /-- `RES 0,A`, 0xCB 0x87 (R343). -/
  | res0A
  /-- `RES 1,B`, 0xCB 0x88 (R343). -/
  | res1B
  /-- `RES 1,C`, 0xCB 0x89 (R343). -/
  | res1C
  /-- `RES 1,D`, 0xCB 0x8A (R343). -/
  | res1D
  /-- `RES 1,E`, 0xCB 0x8B (R343). -/
  | res1E
  /-- `RES 1,H`, 0xCB 0x8C (R343). -/
  | res1H
  /-- `RES 1,L`, 0xCB 0x8D (R343). -/
  | res1L
  /-- `RES 1,(HL)`, 0xCB 0x8E (R344). -/
  | res1AtHl
  /-- `RES 1,A`, 0xCB 0x8F (R343). -/
  | res1A
  /-- `RES 2,B`, 0xCB 0x90 (R343). -/
  | res2B
  /-- `RES 2,C`, 0xCB 0x91 (R343). -/
  | res2C
  /-- `RES 2,D`, 0xCB 0x92 (R343). -/
  | res2D
  /-- `RES 2,E`, 0xCB 0x93 (R343). -/
  | res2E
  /-- `RES 2,H`, 0xCB 0x94 (R343). -/
  | res2H
  /-- `RES 2,L`, 0xCB 0x95 (R343). -/
  | res2L
  /-- `RES 2,(HL)`, 0xCB 0x96 (R344). -/
  | res2AtHl
  /-- `RES 2,A`, 0xCB 0x97 (R343). -/
  | res2A
  /-- `RES 3,B`, 0xCB 0x98 (R343). -/
  | res3B
  /-- `RES 3,C`, 0xCB 0x99 (R343). -/
  | res3C
  /-- `RES 3,D`, 0xCB 0x9A (R343). -/
  | res3D
  /-- `RES 3,E`, 0xCB 0x9B (R343). -/
  | res3E
  /-- `RES 3,H`, 0xCB 0x9C (R343). -/
  | res3H
  /-- `RES 3,L`, 0xCB 0x9D (R343). -/
  | res3L
  /-- `RES 3,(HL)`, 0xCB 0x9E (R344). -/
  | res3AtHl
  /-- `RES 3,A`, 0xCB 0x9F (R343). -/
  | res3A
  /-- `RES 4,B`, 0xCB 0xA0 (R343). -/
  | res4B
  /-- `RES 4,C`, 0xCB 0xA1 (R343). -/
  | res4C
  /-- `RES 4,D`, 0xCB 0xA2 (R343). -/
  | res4D
  /-- `RES 4,E`, 0xCB 0xA3 (R343). -/
  | res4E
  /-- `RES 4,H`, 0xCB 0xA4 (R343). -/
  | res4H
  /-- `RES 4,L`, 0xCB 0xA5 (R343). -/
  | res4L
  /-- `RES 4,(HL)`, 0xCB 0xA6 (R344). -/
  | res4AtHl
  /-- `RES 4,A`, 0xCB 0xA7 (R343). -/
  | res4A
  /-- `RES 5,B`, 0xCB 0xA8 (R343). -/
  | res5B
  /-- `RES 5,C`, 0xCB 0xA9 (R343). -/
  | res5C
  /-- `RES 5,D`, 0xCB 0xAA (R343). -/
  | res5D
  /-- `RES 5,E`, 0xCB 0xAB (R343). -/
  | res5E
  /-- `RES 5,H`, 0xCB 0xAC (R343). -/
  | res5H
  /-- `RES 5,L`, 0xCB 0xAD (R343). -/
  | res5L
  /-- `RES 5,(HL)`, 0xCB 0xAE (R344). -/
  | res5AtHl
  /-- `RES 5,A`, 0xCB 0xAF (R343). -/
  | res5A
  /-- `RES 6,B`, 0xCB 0xB0 (R343). -/
  | res6B
  /-- `RES 6,C`, 0xCB 0xB1 (R343). -/
  | res6C
  /-- `RES 6,D`, 0xCB 0xB2 (R343). -/
  | res6D
  /-- `RES 6,E`, 0xCB 0xB3 (R343). -/
  | res6E
  /-- `RES 6,H`, 0xCB 0xB4 (R343). -/
  | res6H
  /-- `RES 6,L`, 0xCB 0xB5 (R343). -/
  | res6L
  /-- `RES 6,(HL)`, 0xCB 0xB6 (R344). -/
  | res6AtHl
  /-- `RES 6,A`, 0xCB 0xB7 (R343). -/
  | res6A
  /-- `RES 7,B`, 0xCB 0xB8 (R343). -/
  | res7B
  /-- `RES 7,C`, 0xCB 0xB9 (R343). -/
  | res7C
  /-- `RES 7,D`, 0xCB 0xBA (R343). -/
  | res7D
  /-- `RES 7,E`, 0xCB 0xBB (R343). -/
  | res7E
  /-- `RES 7,H`, 0xCB 0xBC (R343). -/
  | res7H
  /-- `RES 7,L`, 0xCB 0xBD (R343). -/
  | res7L
  /-- `RES 7,(HL)`, 0xCB 0xBE (R344). -/
  | res7AtHl
  /-- `RES 7,A`, 0xCB 0xBF (R343). -/
  | res7A
  /-- `SET 0,B`, 0xCB 0xC0 (R345). -/
  | set0B
  /-- `SET 0,C`, 0xCB 0xC1 (R345). -/
  | set0C
  /-- `SET 0,D`, 0xCB 0xC2 (R345). -/
  | set0D
  /-- `SET 0,E`, 0xCB 0xC3 (R345). -/
  | set0E
  /-- `SET 0,H`, 0xCB 0xC4 (R345). -/
  | set0H
  /-- `SET 0,L`, 0xCB 0xC5 (R345). -/
  | set0L
  /-- `SET 0,(HL)`, 0xCB 0xC6 (R346). -/
  | set0AtHl
  /-- `SET 0,A`, 0xCB 0xC7 (R345). -/
  | set0A
  /-- `SET 1,B`, 0xCB 0xC8 (R345). -/
  | set1B
  /-- `SET 1,C`, 0xCB 0xC9 (R345). -/
  | set1C
  /-- `SET 1,D`, 0xCB 0xCA (R345). -/
  | set1D
  /-- `SET 1,E`, 0xCB 0xCB (R345). -/
  | set1E
  /-- `SET 1,H`, 0xCB 0xCC (R345). -/
  | set1H
  /-- `SET 1,L`, 0xCB 0xCD (R345). -/
  | set1L
  /-- `SET 1,(HL)`, 0xCB 0xCE (R346). -/
  | set1AtHl
  /-- `SET 1,A`, 0xCB 0xCF (R345). -/
  | set1A
  /-- `SET 2,B`, 0xCB 0xD0 (R345). -/
  | set2B
  /-- `SET 2,C`, 0xCB 0xD1 (R345). -/
  | set2C
  /-- `SET 2,D`, 0xCB 0xD2 (R345). -/
  | set2D
  /-- `SET 2,E`, 0xCB 0xD3 (R345). -/
  | set2E
  /-- `SET 2,H`, 0xCB 0xD4 (R345). -/
  | set2H
  /-- `SET 2,L`, 0xCB 0xD5 (R345). -/
  | set2L
  /-- `SET 2,(HL)`, 0xCB 0xD6 (R346). -/
  | set2AtHl
  /-- `SET 2,A`, 0xCB 0xD7 (R345). -/
  | set2A
  /-- `SET 3,B`, 0xCB 0xD8 (R345). -/
  | set3B
  /-- `SET 3,C`, 0xCB 0xD9 (R345). -/
  | set3C
  /-- `SET 3,D`, 0xCB 0xDA (R345). -/
  | set3D
  /-- `SET 3,E`, 0xCB 0xDB (R345). -/
  | set3E
  /-- `SET 3,H`, 0xCB 0xDC (R345). -/
  | set3H
  /-- `SET 3,L`, 0xCB 0xDD (R345). -/
  | set3L
  /-- `SET 3,(HL)`, 0xCB 0xDE (R346). -/
  | set3AtHl
  /-- `SET 3,A`, 0xCB 0xDF (R345). -/
  | set3A
  /-- `SET 4,B`, 0xCB 0xE0 (R345). -/
  | set4B
  /-- `SET 4,C`, 0xCB 0xE1 (R345). -/
  | set4C
  /-- `SET 4,D`, 0xCB 0xE2 (R345). -/
  | set4D
  /-- `SET 4,E`, 0xCB 0xE3 (R345). -/
  | set4E
  /-- `SET 4,H`, 0xCB 0xE4 (R345). -/
  | set4H
  /-- `SET 4,L`, 0xCB 0xE5 (R345). -/
  | set4L
  /-- `SET 4,(HL)`, 0xCB 0xE6 (R346). -/
  | set4AtHl
  /-- `SET 4,A`, 0xCB 0xE7 (R345). -/
  | set4A
  /-- `SET 5,B`, 0xCB 0xE8 (R345). -/
  | set5B
  /-- `SET 5,C`, 0xCB 0xE9 (R345). -/
  | set5C
  /-- `SET 5,D`, 0xCB 0xEA (R345). -/
  | set5D
  /-- `SET 5,E`, 0xCB 0xEB (R345). -/
  | set5E
  /-- `SET 5,H`, 0xCB 0xEC (R345). -/
  | set5H
  /-- `SET 5,L`, 0xCB 0xED (R345). -/
  | set5L
  /-- `SET 5,(HL)`, 0xCB 0xEE (R346). -/
  | set5AtHl
  /-- `SET 5,A`, 0xCB 0xEF (R345). -/
  | set5A
  /-- `SET 6,B`, 0xCB 0xF0 (R345). -/
  | set6B
  /-- `SET 6,C`, 0xCB 0xF1 (R345). -/
  | set6C
  /-- `SET 6,D`, 0xCB 0xF2 (R345). -/
  | set6D
  /-- `SET 6,E`, 0xCB 0xF3 (R345). -/
  | set6E
  /-- `SET 6,H`, 0xCB 0xF4 (R345). -/
  | set6H
  /-- `SET 6,L`, 0xCB 0xF5 (R345). -/
  | set6L
  /-- `SET 6,(HL)`, 0xCB 0xF6 (R346). -/
  | set6AtHl
  /-- `SET 6,A`, 0xCB 0xF7 (R345). -/
  | set6A
  /-- `SET 7,B`, 0xCB 0xF8 (R345). -/
  | set7B
  /-- `SET 7,C`, 0xCB 0xF9 (R345). -/
  | set7C
  /-- `SET 7,D`, 0xCB 0xFA (R345). -/
  | set7D
  /-- `SET 7,E`, 0xCB 0xFB (R345). -/
  | set7E
  /-- `SET 7,H`, 0xCB 0xFC (R345). -/
  | set7H
  /-- `SET 7,L`, 0xCB 0xFD (R345). -/
  | set7L
  /-- `SET 7,(HL)`, 0xCB 0xFE (R346). -/
  | set7AtHl
  /-- `SET 7,A`, 0xCB 0xFF (R345). -/
  | set7A
  deriving DecidableEq, Repr

end Sys2Proof
end

