-- ==== Sys2Proof/Machine/State.lean ====
section
/-! DEFINITION. The whole architectural and hidden state of the block as plain data (R30–R70), the reasons a step can
stop, and the state after reset. -/

namespace Sys2Proof.Machine

/-- The CPU run state (R38). -/
inductive RunState where
  | running
  | halted
  | stopped
  | panic
  deriving DecidableEq, Repr

/-- The record of the report `UnsupportedInstruction` (R43, R451). -/
structure PanicInfo where
  opcode : Byte
  isExtended : Bool
  foundAtAddress : Word
  deriving DecidableEq, Repr

/-- `lengthTimer[1..4]` (R46). -/
structure LengthTimers where
  ch1 : Nat
  ch2 : Nat
  ch3 : Nat
  ch4 : Nat
  deriving DecidableEq, Repr

/-- Memory: the bytes that differ from what an unlisted address reads as, by rising address (R44). -/
abbrev Memory := List Host.Cell

/-- A shade 0..3 after palette mapping, or a colour index 0..3 before it (R13). -/
abbrev Shade := BitVec 2

/-- One line of 160 cells, by column. -/
abbrev Line := List Shade

/-- 144 lines, by row: `back`, `front`, `bgIndex` (R49, R50). DESIGN CHOICE: a cell outside reads 0, in unreachable states
alone (log entry 11). -/
abbrev Frame := List Line

/-- A frame buffer with shade 0 in every cell (R68, R500). -/
def blankFrame : Frame := List.replicate 144 (List.replicate 160 0)

/-- What the environment does at the Timer slot (R421): a value for DIV, one for TIMA, and which of the IF bits 2, 3, 4
it sets. The default is `ENV_QUIESCENT`. DEDUCED (safe): these are all the draws (log entry 23). -/
structure TimerDraw where
  div : Option Byte := none
  tima : Option Byte := none
  timerIrq : Bool := false
  serialIrq : Bool := false
  joypadIrq : Bool := false
  deriving DecidableEq, Repr

/-- What the environment does at the APU slot (R424): raw writes to the sound registers (the number is the offset from
0xFF10) and values for the length timers. The default is `ENV_QUIESCENT`. -/
structure ApuDraw where
  sound : List (Fin 48 × Byte) := []
  lengths : Option LengthTimers := none
  deriving DecidableEq, Repr

/-- What the host does between two iterations (R428): an explicit reset, new joypad values (action group, d-pad). -/
structure HostInput where
  reset : Bool := false
  joypad : Option (Byte × Byte) := none
  deriving DecidableEq, Repr

/-- What the outside does in one iteration: the host before it, the environment in its two slots (R431). -/
structure Input where
  host : HostInput := {}
  timer : TimerDraw := {}
  apu : ApuDraw := {}
  deriving DecidableEq, Repr

/-- The state of the block. -/
structure State where
  /-- The accumulator (R30). -/
  a : Byte
  /-- The flag register (R30, R32, R33). -/
  f : Byte
  b : Byte
  c : Byte
  d : Byte
  e : Byte
  h : Byte
  l : Byte
  /-- The stack pointer (R37). -/
  sp : Word
  /-- The address of the next byte the CPU will fetch (R36). -/
  pc : Word
  /-- The CPU run state (R38). -/
  run : RunState
  /-- Interrupt master enable (R39). -/
  ime : Bool
  /-- The EI delay latch (R40). -/
  eiLatch : Bool
  /-- The CPU's own T-cycle count (R41). -/
  cpuCycles : Nat
  /-- The shared T-cycle count (R42). DEDUCED: a natural number, as `cpuCycles`
  and the timers (unsafe only where a counter wraps, log entry 16). -/
  master : Nat
  /-- The recorded panic report (R43). -/
  panicInfo : Option PanicInfo
  /-- The 65536 bytes of the address space (R44). -/
  mem : Memory
  /-- T-cycles left of the OAM DMA window (R45). DEDUCED (safe): an integer (log entry 10). -/
  dmaCountdown : Int
  /-- The byte that selected the DMA source (R45). -/
  dmaSource : Byte
  /-- The audio channels' length timers (R46). -/
  lengthTimer : LengthTimers
  /-- The PPU's position in the frame (R47). -/
  frameSync : Nat
  /-- The window line counter (R48). -/
  windowLine : Nat
  /-- The raw colour index of background or window, per pixel (R49). -/
  bgIndex : Frame
  /-- The frame buffer being drawn (R50). -/
  back : Frame
  /-- The frame buffer being shown (R50). -/
  front : Frame
  /-- The action-button input, 0 = pressed (R51). -/
  joyAction : Byte
  /-- The d-pad input, 0 = pressed (R51). -/
  joyDpad : Byte
  /-- The machine's parameters (R7); no step writes them. DESIGN CHOICE (safe, log entry 4). -/
  config : Config
  /-- What the outside will do in the iterations to come; an empty queue is an idle host and `ENV_QUIESCENT`.
  DESIGN CHOICE: the model's own field (safe but for statements about the reset state, log entry 3). -/
  inputs : List Input
  deriving DecidableEq, Repr

/-- The state after power-on with nothing loaded and the default parameters (R67–R69, R550): registers as R67 gives
them, F = 0x80 because the header checksum byte of an absent cartridge reads 0 (R552), every unlisted byte of memory as
in the reset profile. DESIGN CHOICE, unsafe: no cartridge (log entry 2); the joypad reads unpressed (R51). -/
def State.reset : State where
  a := 0x01
  f := 0x80
  b := 0x00
  c := 0x13
  d := 0x00
  e := 0xD8
  h := 0x01
  l := 0x4D
  sp := 0xFFFE
  pc := 0x0100
  run := .running
  ime := false
  eiLatch := false
  cpuCycles := 0
  master := 0
  panicInfo := none
  mem := []
  dmaCountdown := 0
  dmaSource := 0
  lengthTimer := ⟨0, 0, 0, 0⟩
  frameSync := 0
  windowLine := 0
  bgIndex := blankFrame
  back := blankFrame
  front := blankFrame
  joyAction := 0xFF
  joyDpad := 0xFF
  config := {}
  inputs := []

/-- The errors of the source's taxonomy that are not a state transition of the CPU (R450). -/
inductive Fault where
  /-- Raised by power-on alone, when the cartridge is shorter than its header (R128, R554); no step raises it. Safe: no
  reset state is produced, as the spec says. -/
  | invalidCartridgeSize
  /-- Defined by the source, raised by nothing (R123): every address maps to something. Safe. -/
  | unsupportedMemoryLocation
  /-- Defined by the source, raised by nothing (R123): a write to ROM is dropped. Safe. -/
  | readOnlyMemoryLocation
  deriving DecidableEq, Repr

/-- Why a step has no move. -/
inductive Refusal where
  /-- Raised by an arm of `exec` whose instruction has no meaning yet. No arm does. Safe. -/
  | notModelled (mnemonic : String)
  /-- Raised by the step whose host input reports opposing d-pad directions pressed: such an input "has no move in the
  model" (R428, D38). DEDUCED, safe: the host is assumed never to give one (log entry 8). -/
  | opposingDirections
  deriving DecidableEq, Repr

/-- What an instruction or a step answers. -/
abbrev Result := Host.Outcome State Fault Refusal

/-- Go on from a next state; a stop stays. -/
def Result.andThen (r : Result) (k : State → Result) : Result :=
  match r with
  | .next s => k s
  | .fault x => .fault x
  | .refused x => .refused x

end Sys2Proof.Machine
end

