-- ==== Sys2Proof/Machine/Profile.lean ====
section
/-! DEFINITION. What an address of memory reads as when nothing is listed for it: the profile `DMG_POST_BOOT` (R69). -/

namespace Sys2Proof.Machine

/-- 0xFF00..0xFF4B of the profile, sixteen bytes a row (R69). -/
def postBootIo : List Byte :=
  [0xCF, 0x00, 0x7E, 0x00, 0xAB, 0x00, 0x00, 0xF8, 0x00, 0x00, 0x00, 0x00, 0x00, 0x00, 0x00, 0xE1] ++
  [0x80, 0xBF, 0xF3, 0xFF, 0xBF, 0x00, 0x3F, 0x00, 0xFF, 0xBF, 0x7F, 0xFF, 0x9F, 0xFF, 0xBF, 0x00] ++
  [0xFF, 0x00, 0x00, 0xBF, 0x77, 0xF3, 0xF1, 0x00, 0x00, 0x00, 0x00, 0x00, 0x00, 0x00, 0x00, 0x00] ++
  [0x00, 0x00, 0x00, 0x00, 0x00, 0x00, 0x00, 0x00, 0x00, 0x00, 0x00, 0x00, 0x00, 0x00, 0x00, 0x00] ++
  [0x91, 0x85, 0x00, 0x00, 0x00, 0x00, 0xFF, 0xFC, 0xFF, 0xFF, 0x00, 0x00]

/-- The byte of the profile at an address: "every byte 0x00 except the I/O registers" of the table (R69).
DESIGN CHOICE, unsafe: an unlisted byte reads as the default of the parameter `InitMem` (log entry 1). -/
def initByte (a : Nat) : Byte :=
  if a < 0xFF00 then 0 else postBootIo.getD (a - 0xFF00) 0

end Sys2Proof.Machine
end

