-- ==== Sys2Proof/Machine/Ops.lean ====
section
/-! DEFINITION. The named operations over memory, the bus and the stack, fetching a byte, entering the panic, taking an
interrupt and returning from one. -/

namespace Sys2Proof.Machine

/-! ## Memory: one byte per address (R44) -/

/-- The byte at an address. -/
def Memory.read : Memory → Nat → Byte
  | [], a => initByte a
  | (b, v) :: m, a => if b = a then v else Memory.read m a

/-- Nothing listed at an address. -/
def Memory.erase (m : Memory) (a : Nat) : Memory := m.filter (fun cell => cell.1 != a)

/-- A cell put before the first cell of a higher address. -/
def Memory.insert : Memory → Nat → Byte → Memory
  | [], a, v => [(a, v)]
  | cell :: m, a, v => if a < cell.1 then (a, v) :: cell :: m else cell :: Memory.insert m a v

/-- The byte `v` at an address: listed, unless an unlisted address reads as `v` anyway. -/
def Memory.write (m : Memory) (a : Nat) (v : Byte) : Memory :=
  if v = initByte a then Memory.erase m a else Memory.insert (Memory.erase m a) a v

/-- The canonical form: addresses of the 64 KiB space, strictly rising, and no cell that an unlisted address reads as. -/
def Memory.wf (m : Memory) : Bool :=
  decide (m.Pairwise (fun x y => x.1 < y.1)) && m.all (fun cell => cell.1 < 0x10000 && cell.2 != initByte cell.1)

/-! ## Device-side accesses (R10, R116) -/

/-- `RawRead(a)`. -/
def State.rawRead (s : State) (a : Word) : Byte := Memory.read s.mem a.toNat

/-- `RawWrite(a, v)`. -/
def State.rawWrite (s : State) (a : Word) (v : Byte) : State := { s with mem := Memory.write s.mem a.toNat v }

/-- `setIF(i)`: "set individual flag bit" (R455). -/
def State.setIf (s : State) (i : Nat) : State := s.rawWrite 0xFF0F (s.rawRead 0xFF0F ||| (1#8 <<< i))

/-! ## The CPU's bus decode (R102–R115) -/

/-- `dmaActive()` (R104). -/
def State.dmaActive (s : State) : Bool := decide (0 < s.dmaCountdown)

/-- `inDmaWindow(a)`: the source range `dmaSource:00 .. dmaSource:9F`, or OAM (R104). -/
def State.inDmaWindow (s : State) (a : Word) : Bool :=
  (wordOf s.dmaSource 0x00 ≤ a && a ≤ wordOf s.dmaSource 0x9F) || (0xFE00#16 ≤ a && a ≤ 0xFE9F#16)

/-- Contention at an address: a transfer is in progress and the address lies in its window (R104). -/
def State.blocked (s : State) (a : Word) : Bool := s.dmaActive && s.inDmaWindow a

/-- `JoypadRead()` (R105): the stored select bits over the pressed state of the selected groups. -/
def State.joypadRead (s : State) : Byte :=
  let stored := s.rawRead 0xFF00
  let action := if stored.getLsbD 5 then 0x0F#8 else s.joyAction
  let dpad := if stored.getLsbD 4 then 0x0F#8 else s.joyDpad
  (stored &&& 0xF0) ||| (0x0F &&& action &&& dpad)

/-- The address 0x2000 lower, into which echo RAM is mirrored (R112). -/
def mirrored (a : Word) : Word := a - 0x2000

/-- `DecodedRead(a)`: the read decode without its contention line (R102, R108). -/
def State.decodedRead (s : State) (a : Word) : Byte :=
  if a = 0xFF00 then s.joypadRead
  else if a = 0xFF41 then s.rawRead 0xFF41 ||| 0x80
  else if 0xE000#16 ≤ a ∧ a ≤ 0xFDFF#16 then s.rawRead (mirrored a)
  else if 0xFEA0#16 ≤ a ∧ a ≤ 0xFEFF#16 then 0x00
  else s.rawRead a

/-- `MemRead(a, 1)`, a CPU bus read (R102). It changes nothing (R122). -/
def State.memRead (s : State) (a : Word) : Byte :=
  if s.blocked a then 0xFF else s.decodedRead a

/-- `CoincidenceRecheck()`: STAT bit 2 says whether LY equals LYC (R110). -/
def State.coincidenceRecheck (s : State) : State :=
  s.rawWrite 0xFF41
    ((s.rawRead 0xFF41 &&& ~~~0x04#8) ||| (if s.rawRead 0xFF44 = s.rawRead 0xFF45 then 0x04#8 else 0))

/-- `DmaSrcRead(a)` (R108). -/
def State.dmaSrcRead (s : State) (a : Word) : Byte :=
  match s.config.dmaSourcePath with
  | .decoded => s.decodedRead a
  | .raw => s.rawRead a

/-- One byte of the copy: source byte `i` into OAM byte `i` (R108, R117). -/
def State.dmaCopyByte (page : Byte) (s : State) (i : Nat) : State :=
  s.rawWrite (0xFE00 + BitVec.ofNat 16 i) (s.dmaSrcRead (wordOf page 0x00 + BitVec.ofNat 16 i))

/-- `StartDMA(XX)`: 160 bytes copied at once, ascending, and the countdown started at 640 (R108). -/
def State.startDma (s : State) (page : Byte) : State :=
  let copied := (List.range 0xA0).foldl (State.dmaCopyByte page) { s with dmaSource := page }
  { copied with dmaCountdown := 640 }

/-- `ReloadLength(a, v)`: the table of R111. -/
def State.reloadLength (s : State) (a : Word) (v : Byte) : State :=
  let short := 64 - (v &&& 0x3F).toNat
  { s with
    lengthTimer :=
      if a = 0xFF11 then { s.lengthTimer with ch1 := short }
      else if a = 0xFF16 then { s.lengthTimer with ch2 := short }
      else if a = 0xFF1B then { s.lengthTimer with ch3 := 256 - v.toNat }
      else if a = 0xFF20 then { s.lengthTimer with ch4 := short }
      else s.lengthTimer }

/-- `MemWrite(a, 1, v)`, a CPU bus write: the first matching case (R103). -/
def State.memWrite (s : State) (a : Word) (v : Byte) : State :=
  if s.blocked a then s
  else if a = 0xFF00 then s.rawWrite 0xFF00 ((s.rawRead 0xFF00 &&& 0xCF) ||| (v &&& 0x30))
  else if a = 0xFF41 then s.rawWrite 0xFF41 ((s.rawRead 0xFF41 &&& 0x07) ||| (v &&& 0xF8))
  else if a = 0xFF46 then (s.rawWrite 0xFF46 v).startDma v
  else if a = 0xFF04 then s.rawWrite 0xFF04 0x00
  else if a = 0xFF45 then (s.rawWrite 0xFF45 v).coincidenceRecheck
  else if a = 0xFF11 ∨ a = 0xFF16 ∨ a = 0xFF1B ∨ a = 0xFF20 then (s.rawWrite a v).reloadLength a v
  else if 0xE000#16 ≤ a ∧ a ≤ 0xFDFF#16 then s.rawWrite (mirrored a) v
  else if 0xFEA0#16 ≤ a ∧ a ≤ 0xFEFF#16 then s
  else if a ≤ 0x7FFF#16 then s
  else s.rawWrite a v

/-! ## 16-bit accesses, fetching and the stack -/

/-- `MemWrite(a, 2, v)`: low byte, then high byte at the next address (R10, R119). -/
def State.memWrite16 (s : State) (a : Word) (v : Word) : State :=
  (s.memWrite a (loByte v)).memWrite (a + 1) (hiByte v)

/-- `fetch8()`: the byte at PC through the bus decode, and PC one further (R414). -/
def State.fetch8 (s : State) : Byte × State := (s.memRead s.pc, { s with pc := s.pc + 1 })

/-- `Push16(v)`: SP first, then the high byte, then the low byte (R240). -/
def State.push16 (s : State) (v : Word) : State :=
  (({ s with sp := s.sp - 2 }).memWrite (s.sp - 1) (hiByte v)).memWrite (s.sp - 2) (loByte v)

/-- The word that `Pop16()` reads: low byte at SP, high byte above it (R241). -/
def State.stackTop (s : State) : Word := wordOf (s.memRead (s.sp + 1)) (s.memRead s.sp)

/-- What `Pop16()` leaves: SP two higher (R241). -/
def State.dropTop (s : State) : State := { s with sp := s.sp + 2 }

/-! ## Cycles (R418) -/

/-- `cycles += n`, in T-cycles (R10, R41). -/
def State.charge (s : State) (n : Nat) : State := { s with cpuCycles := s.cpuCycles + n }

/-- The end of an executed instruction: the descriptor's base duration is added (R413, R418). -/
def complete (cycles : Nat) (s : State) : Result := .next (s.charge cycles)

/-! ## Taking an exception, and returning from one -/

/-- `raise Panic(info)`: the one synchronous fault (R451). PC points at the offending byte again, no cycle is charged.
DEDUCED, safe: the CPU's panic is a next state of the system (log entry 7). -/
def State.raisePanic (s : State) (info : PanicInfo) : State :=
  { s with run := .panic, pc := info.foundAtAddress, panicInfo := some info }

/-- The vector of interrupt source `i` (R454). -/
def interruptVector (i : Nat) : Word := 0x0040 + 8 * BitVec.ofNat 16 i

/-- Taking interrupt `i` (R457, R460): its IF bit is cleared, IME is cleared, PC is pushed, PC becomes the vector, the
CPU runs, and 20 T-cycles are charged (R461). -/
def State.takeInterrupt (s : State) (i : Nat) : State :=
  let acknowledged := s.rawWrite 0xFF0F (s.rawRead 0xFF0F &&& ~~~(1#8 <<< i))
  let pushed := ({ acknowledged with ime := false }).push16 s.pc
  ({ pushed with pc := interruptVector i, run := .running }).charge 20

/-- Returning from an interrupt handler: PC is popped and IME is set at once; the latch is not (R370, R463, D7). -/
def State.returnFromInterrupt (s : State) : State :=
  { s.dropTop with pc := s.stackTop, ime := true }

end Sys2Proof.Machine
end

