-- ==== Sys2Proof/Machine/Operands.lean ====
section
/-! DEFINITION. Reading and writing what an operand names: registers, pairs, the byte at HL, addresses, conditions
(R30–R32, R153–R158, R324). -/

namespace Sys2Proof.Machine

/-! ## 8-bit registers -/

/-- Read of a register of the code `r8` (R153). -/
def State.reg8 (s : State) : Reg8 → Byte
  | .a => s.a
  | .b => s.b
  | .c => s.c
  | .d => s.d
  | .e => s.e
  | .h => s.h
  | .l => s.l

/-- Write of a register of the code `r8` (R153). -/
def State.setReg8 (s : State) (r : Reg8) (v : Byte) : State :=
  match r with
  | .a => { s with a := v }
  | .b => { s with b := v }
  | .c => { s with c := v }
  | .d => { s with d := v }
  | .e => { s with e := v }
  | .h => { s with h := v }
  | .l => { s with l := v }

/-- Read of F: "bottom 4 bits always read as 0" (R32). -/
def State.readF (s : State) : Byte := s.f &&& 0xF0

/-- Write of F: every write stores `v & 0xF0` (R32). -/
def State.writeF (s : State) (v : Byte) : State := { s with f := v &&& 0xF0 }

/-! ## Register pairs: the first-named register is the high byte (R31) -/

/-- `BC`. -/
def State.bc (s : State) : Word := wordOf s.b s.c

/-- `DE`. -/
def State.de (s : State) : Word := wordOf s.d s.e

/-- `HL`. -/
def State.hl (s : State) : Word := wordOf s.h s.l

/-- `AF`. -/
def State.af (s : State) : Word := wordOf s.a s.readF

/-- `HL <- v`. -/
def State.setHl (s : State) (v : Word) : State := { s with h := hiByte v, l := loByte v }

/-- Read of `r16[p]` (R154). -/
def State.reg16 (s : State) : Reg16 → Word
  | .bc => s.bc
  | .de => s.de
  | .hl => s.hl
  | .sp => s.sp

/-- Write of `r16[p]` (R154). -/
def State.setReg16 (s : State) (p : Reg16) (v : Word) : State :=
  match p with
  | .bc => { s with b := hiByte v, c := loByte v }
  | .de => { s with d := hiByte v, e := loByte v }
  | .hl => s.setHl v
  | .sp => { s with sp := v }

/-- Read of `r16stk[p]` (R155). -/
def State.stackReg (s : State) : StackReg → Word
  | .bc => s.bc
  | .de => s.de
  | .hl => s.hl
  | .af => s.af

/-- Write of `r16stk[p]`; a write to AF masks F (R32, R155, R248). -/
def State.setStackReg (s : State) (p : StackReg) (v : Word) : State :=
  match p with
  | .bc => s.setReg16 .bc v
  | .de => s.setReg16 .de v
  | .hl => s.setReg16 .hl v
  | .af => ({ s with a := hiByte v }).writeF (loByte v)

/-! ## A register or the byte at HL (R153, R324) -/

/-- `cbGet`: read of the operand the code `r8` names. -/
def State.operand8 (s : State) : Operand8 → Byte
  | .reg r => s.reg8 r
  | .atHl => s.memRead s.hl

/-- `cbPut`: write of the operand the code `r8` names. -/
def State.setOperand8 (s : State) (o : Operand8) (v : Byte) : State :=
  match o with
  | .reg r => s.setReg8 r v
  | .atHl => s.memWrite s.hl v

/-- The duration that goes with an operand: `reg` for a register, `mem` for the byte at HL. -/
def operandCycles (o : Operand8) (reg mem : Nat) : Nat :=
  match o with
  | .reg _ => reg
  | .atHl => mem

/-! ## Addresses (R156, R158) -/

/-- The address of the indirect code `r16mem[p]` (R156). -/
def State.memRegAddr (s : State) : MemReg → Word
  | .bc => s.bc
  | .de => s.de
  | .hlInc => s.hl
  | .hlDec => s.hl

/-- What becomes of HL after an access through `r16mem[p]` (R156). -/
def State.memRegAfter (s : State) (p : MemReg) : State :=
  match p with
  | .bc => s
  | .de => s
  | .hlInc => s.setHl (s.hl + 1)
  | .hlDec => s.setHl (s.hl - 1)

/-- `0xFF00 + n8` (R158). -/
def highAddr (n : Byte) : Word := 0xFF00 + n.zeroExtend 16

/-- `sext_16(e8)` (R9, R158). -/
def sext16 (e : Byte) : Word := e.signExtend 16

/-- The restart target `8 * y` (R158, R371). -/
def restartTarget (y : Fin 8) : Word := BitVec.ofNat 16 (8 * y.val)

end Sys2Proof.Machine
end

