-- ==== Sys2Proof/Machine/Flags.lean ====
section
/-! DEFINITION. The four flags of F (R33, R34), every flag computation and the results that go with them (R260–R262,
R287, R289, R291, R300, R303, R324), and the conditions (R360). Arithmetic is on natural numbers, narrowed at the end (R9). -/

namespace Sys2Proof.Machine

/-- The four flags: Z, N, Hf, Cy (R33). -/
structure Flags where
  z : Bool
  n : Bool
  h : Bool
  c : Bool
  deriving DecidableEq, Repr

/-- The flags of a byte of F: bits 7, 6, 5, 4 (R33). -/
def Flags.ofByte (v : Byte) : Flags := ⟨v.getLsbD 7, v.getLsbD 6, v.getLsbD 5, v.getLsbD 4⟩

/-- The byte of F with these flags: the low nibble is 0 (R32, R33). -/
def Flags.toByte (fl : Flags) : Byte :=
  (if fl.z then 0x80 else 0) ||| (if fl.n then 0x40 else 0) ||| (if fl.h then 0x20 else 0) ||| (if fl.c then 0x10 else 0)

/-- The flags as they stand. -/
def State.flags (s : State) : Flags := Flags.ofByte s.f

/-- All four flags set or cleared (R34). -/
def State.setFlags (s : State) (fl : Flags) : State := { s with f := fl.toByte }

/-- Whether a condition holds of the flags (R360). -/
def Flags.cond (fl : Flags) : Cond → Bool
  | .nz => !fl.z
  | .z => fl.z
  | .nc => !fl.c
  | .c => fl.c

/-- `v & 0x0F` as a number. -/
def lowNibble (v : Byte) : Nat := (v &&& 0x0F).toNat

/-! ## 8-bit addition, subtraction and logic -/

/-- `add_a(v, cin)` on the value `a` of A (R260). -/
def addFlags (a v : Byte) (cin : Bool) : Byte × Flags :=
  let s := a.toNat + v.toNat + cin.toNat
  let r : Byte := BitVec.ofNat 8 s
  (r, { z := r == 0, n := false, h := decide (lowNibble a + lowNibble v + cin.toNat > 0x0F), c := decide (s > 0xFF) })

/-- `sub_a(v, cin, _)` on the value `a` of A (R261). -/
def subFlags (a v : Byte) (cin : Bool) : Byte × Flags :=
  let r : Byte := BitVec.ofInt 8 ((a.toNat : Int) - v.toNat - cin.toNat)
  (r, { z := r == 0, n := true, h := decide (lowNibble a < lowNibble v + cin.toNat),
        c := decide (a.toNat < v.toNat + cin.toNat) })

/-- `and_a(v)` (R262). -/
def andFlags (a v : Byte) : Byte × Flags := (a &&& v, { z := a &&& v == 0, n := false, h := true, c := false })

/-- `or_a(v)` (R262). -/
def orFlags (a v : Byte) : Byte × Flags := (a ||| v, { z := a ||| v == 0, n := false, h := false, c := false })

/-- `xor_a(v)` (R262). -/
def xorFlags (a v : Byte) : Byte × Flags := (a ^^^ v, { z := a ^^^ v == 0, n := false, h := false, c := false })

/-- The ALU operation of the code `y` on A and `v`, with the carry as it stands: the new A and the new flags. CP keeps A
(R161, R260–R262). -/
def aluFlags (op : AluOp) (a v : Byte) (carry : Bool) : Byte × Flags :=
  match op with
  | .add => addFlags a v false
  | .adc => addFlags a v carry
  | .sub => subFlags a v false
  | .sbc => subFlags a v carry
  | .and => andFlags a v
  | .xor => xorFlags a v
  | .or => orFlags a v
  | .cp => (a, (subFlags a v false).2)

/-- `inc`: wrapping, Cy untouched (R287). -/
def incFlags (v : Byte) (fl : Flags) : Byte × Flags :=
  (v + 1, { z := v + 1 == 0, n := false, h := v &&& 0x0F == 0x0F, c := fl.c })

/-- `dec`: wrapping, Cy untouched (R289). -/
def decFlags (v : Byte) (fl : Flags) : Byte × Flags :=
  (v - 1, { z := v - 1 == 0, n := true, h := v &&& 0x0F == 0x00, c := fl.c })

/-! ## Decimal adjust -/

/-- `DAA`: the algorithm of R291. -/
def daaFlags (a : Byte) (fl : Flags) : Byte × Flags :=
  if fl.n then
    let r := a - (if fl.c then 0x60 else 0) - (if fl.h then 0x06 else 0)
    (r, { z := r == 0, n := true, h := false, c := fl.c })
  else
    let high := fl.c || decide (a.toNat > 0x99)
    let low := fl.h || decide (lowNibble a > 0x09)
    let r := a + (if high then 0x60 else 0) + (if low then 0x06 else 0)
    (r, { z := r == 0, n := false, h := false, c := high })

/-! ## 16-bit addition -/

/-- `ADD HL,rr`: carries out of bits 11 and 15, Z unchanged (R300). -/
def addHlFlags (hl v : Word) (fl : Flags) : Word × Flags :=
  (BitVec.ofNat 16 (hl.toNat + v.toNat),
    { z := fl.z, n := false, h := decide ((hl &&& 0x0FFF).toNat + (v &&& 0x0FFF).toNat > 0x0FFF),
      c := decide (hl.toNat + v.toNat > 0xFFFF) })

/-- The flags of the SP+e8 forms: over the low byte only (R245, R303). -/
def spOffsetFlags (sp : Word) (n : Byte) : Flags :=
  { z := false, n := false, h := decide (lowNibble (loByte sp) + lowNibble n > 0x0F),
    c := decide ((loByte sp).toNat + n.toNat > 0xFF) }

/-! ## Shifts, rotates and bits -/

/-- The shift and rotate functions: the result and the carry out (the table of R324). -/
def shiftResult (op : ShiftOp) (v : Byte) (cin : Bool) : Byte × Bool :=
  let bit7 := v.getLsbD 7
  let bit0 := v.getLsbD 0
  match op with
  | .rlc => ((v <<< 1) ||| (if bit7 then 0x01 else 0), bit7)
  | .rrc => ((v >>> 1) ||| (if bit0 then 0x80 else 0), bit0)
  | .rl => ((v <<< 1) ||| (if cin then 0x01 else 0), bit7)
  | .rr => ((v >>> 1) ||| (if cin then 0x80 else 0), bit0)
  | .sla => (v <<< 1, bit7)
  | .sra => ((v >>> 1) ||| (v &&& 0x80), bit0)
  | .swap => (((v &&& 0x0F) <<< 4) ||| (v >>> 4), false)
  | .srl => (v >>> 1, bit0)

/-- The flags of a CB shift or rotate: Z from the result (R324). -/
def shiftFlags (op : ShiftOp) (v : Byte) (cin : Bool) : Byte × Flags :=
  let r := shiftResult op v cin
  (r.1, { z := r.1 == 0, n := false, h := false, c := r.2 })

/-- The flags of RLCA, RRCA, RLA, RRA: Z is always cleared (R320–R323). -/
def accRotateFlags (op : ShiftOp) (v : Byte) (cin : Bool) : Byte × Flags :=
  let r := shiftResult op v cin
  (r.1, { z := false, n := false, h := false, c := r.2 })

/-- The flags of `BIT b`: Z is the complement of the bit, Cy unchanged (R341). -/
def bitFlags (b : Fin 8) (v : Byte) (fl : Flags) : Flags :=
  { z := !v.getLsbD b.val, n := false, h := true, c := fl.c }

/-- `v & ~(1 << b)` (R343). -/
def resetBit (b : Fin 8) (v : Byte) : Byte := v &&& ~~~(1#8 <<< b.val)

/-- `v | (1 << b)` (R345). -/
def setBit (b : Fin 8) (v : Byte) : Byte := v ||| (1#8 <<< b.val)

end Sys2Proof.Machine
end

