-- ==== Sys2Proof/Machine/Alu16.lean ====
section
/-! DEFINITION. 16-bit arithmetic (R300–R303). -/

namespace Sys2Proof.Machine

/-! ## The shared operations -/

/-- `ADD HL,rr` (R300). -/
def addHlPair (p : Reg16) (s : State) : State :=
  let r := addHlFlags s.hl (s.reg16 p) s.flags
  (s.setHl r.1).setFlags r.2

/-- `INC rr` (R301). -/
def incPair (p : Reg16) (s : State) : State := s.setReg16 p (s.reg16 p + 1)

/-- `DEC rr` (R302). -/
def decPair (p : Reg16) (s : State) : State := s.setReg16 p (s.reg16 p - 1)

/-- `ADD SP,e8` (R303). -/
def addSpOffset (e : Byte) (s : State) : State := ({ s with sp := s.sp + sext16 e }).setFlags (spOffsetFlags s.sp e)

/-! ## The instructions -/

/-- `INC BC` (R301). -/
def execIncBc (s : State) : Result := complete 8 (incPair .bc s)
/-- `ADD HL,BC` (R300). -/
def execAddHlBc (s : State) : Result := complete 8 (addHlPair .bc s)
/-- `DEC BC` (R302). -/
def execDecBc (s : State) : Result := complete 8 (decPair .bc s)
/-- `INC DE` (R301). -/
def execIncDe (s : State) : Result := complete 8 (incPair .de s)
/-- `ADD HL,DE` (R300). -/
def execAddHlDe (s : State) : Result := complete 8 (addHlPair .de s)
/-- `DEC DE` (R302). -/
def execDecDe (s : State) : Result := complete 8 (decPair .de s)
/-- `INC HL` (R301). -/
def execIncHl (s : State) : Result := complete 8 (incPair .hl s)
/-- `ADD HL,HL` (R300). -/
def execAddHlHl (s : State) : Result := complete 8 (addHlPair .hl s)
/-- `DEC HL` (R302). -/
def execDecHl (s : State) : Result := complete 8 (decPair .hl s)
/-- `INC SP` (R301). -/
def execIncSp (s : State) : Result := complete 8 (incPair .sp s)
/-- `ADD HL,SP` (R300). -/
def execAddHlSp (s : State) : Result := complete 8 (addHlPair .sp s)
/-- `DEC SP` (R302). -/
def execDecSp (s : State) : Result := complete 8 (decPair .sp s)
/-- `ADD SP,e8` (R303). -/
def execAddSpE8 (e : Byte) (s : State) : Result := complete 16 (addSpOffset e s)

end Sys2Proof.Machine
end

