-- ==== Sys2Proof/Machine/Control.lean ====
section
/-! DEFINITION. Jumps, calls, returns and restarts (R360–R371). PC stands past the instruction when each runs (R360). -/

namespace Sys2Proof.Machine

/-! ## The shared operations -/

/-- `PC <- t` (R361, R363). -/
def jumpTo (t : Word) (s : State) : State := { s with pc := t }

/-- `PC <- u16(PC + sext_16(e8))` (R364). -/
def jumpBy (e : Byte) (s : State) : State := { s with pc := s.pc + sext16 e }

/-- `Push16(PC); PC <- t` (R366, R371). -/
def callTo (t : Word) (s : State) : State := jumpTo t (s.push16 s.pc)

/-- `PC <- Pop16()` (R368). -/
def returnToCaller (s : State) : State := { s.dropTop with pc := s.stackTop }

/-- A branch taken only if the condition holds, which then costs `overhead` more (R360). -/
def branchIf (cc : Cond) (overhead : Nat) (branch : State → State) (s : State) : State :=
  if s.flags.cond cc then (branch s).charge overhead else s

/-! ## The instructions -/

/-- `JR e8` (R364). -/
def execJrE8 (e : Byte) (s : State) : Result := complete 12 (jumpBy e s)
/-- `JR NZ,e8` (R365). -/
def execJrNzE8 (e : Byte) (s : State) : Result := complete 8 (branchIf .nz 4 (jumpBy e) s)
/-- `JR Z,e8` (R365). -/
def execJrZE8 (e : Byte) (s : State) : Result := complete 8 (branchIf .z 4 (jumpBy e) s)
/-- `JR NC,e8` (R365). -/
def execJrNcE8 (e : Byte) (s : State) : Result := complete 8 (branchIf .nc 4 (jumpBy e) s)
/-- `JR C,e8` (R365). -/
def execJrCE8 (e : Byte) (s : State) : Result := complete 8 (branchIf .c 4 (jumpBy e) s)
/-- `RET NZ` (R369). -/
def execRetNz (s : State) : Result := complete 8 (branchIf .nz 12 returnToCaller s)
/-- `JP NZ,n16` (R362). -/
def execJpNzN16 (n : Word) (s : State) : Result := complete 12 (branchIf .nz 4 (jumpTo n) s)
/-- `JP n16` (R361). -/
def execJpN16 (n : Word) (s : State) : Result := complete 16 (jumpTo n s)
/-- `CALL NZ,n16` (R367). -/
def execCallNzN16 (n : Word) (s : State) : Result := complete 12 (branchIf .nz 12 (callTo n) s)
/-- `RST $00` (R371). -/
def execRst00 (s : State) : Result := complete 16 (callTo (restartTarget 0) s)
/-- `RET Z` (R369). -/
def execRetZ (s : State) : Result := complete 8 (branchIf .z 12 returnToCaller s)
/-- `RET` (R368). -/
def execRet (s : State) : Result := complete 16 (returnToCaller s)
/-- `JP Z,n16` (R362). -/
def execJpZN16 (n : Word) (s : State) : Result := complete 12 (branchIf .z 4 (jumpTo n) s)
/-- `CALL Z,n16` (R367). -/
def execCallZN16 (n : Word) (s : State) : Result := complete 12 (branchIf .z 12 (callTo n) s)
/-- `CALL n16` (R366). -/
def execCallN16 (n : Word) (s : State) : Result := complete 24 (callTo n s)
/-- `RST $08` (R371). -/
def execRst08 (s : State) : Result := complete 16 (callTo (restartTarget 1) s)
/-- `RET NC` (R369). -/
def execRetNc (s : State) : Result := complete 8 (branchIf .nc 12 returnToCaller s)
/-- `JP NC,n16` (R362). -/
def execJpNcN16 (n : Word) (s : State) : Result := complete 12 (branchIf .nc 4 (jumpTo n) s)
/-- `CALL NC,n16` (R367). -/
def execCallNcN16 (n : Word) (s : State) : Result := complete 12 (branchIf .nc 12 (callTo n) s)
/-- `RST $10` (R371). -/
def execRst10 (s : State) : Result := complete 16 (callTo (restartTarget 2) s)
/-- `RET C` (R369). -/
def execRetC (s : State) : Result := complete 8 (branchIf .c 12 returnToCaller s)
/-- `RETI` (R370). -/
def execReti (s : State) : Result := complete 16 (s.returnFromInterrupt)
/-- `JP C,n16` (R362). -/
def execJpCN16 (n : Word) (s : State) : Result := complete 12 (branchIf .c 4 (jumpTo n) s)
/-- `CALL C,n16` (R367). -/
def execCallCN16 (n : Word) (s : State) : Result := complete 12 (branchIf .c 12 (callTo n) s)
/-- `RST $18` (R371). -/
def execRst18 (s : State) : Result := complete 16 (callTo (restartTarget 3) s)
/-- `RST $20` (R371). -/
def execRst20 (s : State) : Result := complete 16 (callTo (restartTarget 4) s)
/-- `JP HL` (R363). -/
def execJpHl (s : State) : Result := complete 4 (jumpTo s.hl s)
/-- `RST $28` (R371). -/
def execRst28 (s : State) : Result := complete 16 (callTo (restartTarget 5) s)
/-- `RST $30` (R371). -/
def execRst30 (s : State) : Result := complete 16 (callTo (restartTarget 6) s)
/-- `RST $38` (R371). -/
def execRst38 (s : State) : Result := complete 16 (callTo (restartTarget 7) s)

end Sys2Proof.Machine
end

