-- ==== Sys2Proof/Machine/Load16.lean ====
section
/-! DEFINITION. 16-bit loads and the stack (R240–R248). -/

namespace Sys2Proof.Machine

/-! ## The shared operations -/

/-- `LD rr,n16` (R242). -/
def ldPairN16 (dst : Reg16) (n : Word) (s : State) : State := s.setReg16 dst n

/-- `PUSH rr` (R246). -/
def pushPair (p : StackReg) (s : State) : State := s.push16 (s.stackReg p)

/-- `POP rr` and `POP AF` (R247, R248). -/
def popPair (p : StackReg) (s : State) : State := s.dropTop.setStackReg p s.stackTop

/-- `LD HL,SP+e8` (R245). -/
def ldHlSpOffset (e : Byte) (s : State) : State := (s.setHl (s.sp + sext16 e)).setFlags (spOffsetFlags s.sp e)

/-! ## The instructions -/

/-- `LD BC,n16` (R242). -/
def execLdBcN16 (n : Word) (s : State) : Result := complete 12 (ldPairN16 .bc n s)
/-- `LD (n16),SP` (R243). -/
def execLdAtN16Sp (n : Word) (s : State) : Result := complete 20 (s.memWrite16 n s.sp)
/-- `LD DE,n16` (R242). -/
def execLdDeN16 (n : Word) (s : State) : Result := complete 12 (ldPairN16 .de n s)
/-- `LD HL,n16` (R242). -/
def execLdHlN16 (n : Word) (s : State) : Result := complete 12 (ldPairN16 .hl n s)
/-- `LD SP,n16` (R242). -/
def execLdSpN16 (n : Word) (s : State) : Result := complete 12 (ldPairN16 .sp n s)
/-- `POP BC` (R247). -/
def execPopBc (s : State) : Result := complete 12 (popPair .bc s)
/-- `PUSH BC` (R246). -/
def execPushBc (s : State) : Result := complete 16 (pushPair .bc s)
/-- `POP DE` (R247). -/
def execPopDe (s : State) : Result := complete 12 (popPair .de s)
/-- `PUSH DE` (R246). -/
def execPushDe (s : State) : Result := complete 16 (pushPair .de s)
/-- `POP HL` (R247). -/
def execPopHl (s : State) : Result := complete 12 (popPair .hl s)
/-- `PUSH HL` (R246). -/
def execPushHl (s : State) : Result := complete 16 (pushPair .hl s)
/-- `POP AF` (R248). -/
def execPopAf (s : State) : Result := complete 12 (popPair .af s)
/-- `PUSH AF` (R246). -/
def execPushAf (s : State) : Result := complete 16 (pushPair .af s)
/-- `LD HL,SP+e8` (R245). -/
def execLdHlSpE8 (e : Byte) (s : State) : Result := complete 12 (ldHlSpOffset e s)
/-- `LD SP,HL` (R244). -/
def execLdSpHl (s : State) : Result := complete 8 ({ s with sp := s.hl })

end Sys2Proof.Machine
end

