-- ==== Sys2Proof/Machine/Load8.lean ====
section
/-! DEFINITION. 8-bit loads (R200–R219). Each meaning runs after the fetch, with PC past the instruction (R11, R200). -/

namespace Sys2Proof.Machine

/-! ## The shared operations -/

/-- `LD r,r'` (R201). -/
def ldRegReg (dst src : Reg8) (s : State) : State := s.setReg8 dst (s.reg8 src)

/-- `LD r,n8` (R202). -/
def ldRegN8 (dst : Reg8) (n : Byte) (s : State) : State := s.setReg8 dst n

/-- `LD r,(HL)` (R203). -/
def ldRegAtHl (dst : Reg8) (s : State) : State := s.setReg8 dst (s.memRead s.hl)

/-- `LD (HL),r` (R204). -/
def ldAtHlReg (src : Reg8) (s : State) : State := s.memWrite s.hl (s.reg8 src)

/-- `LD A,(a)`: A from the byte at an address (R206, R207, R210, R212, R214). -/
def ldAFrom (a : Word) (s : State) : State := { s with a := s.memRead a }

/-- `LD (a),A`: A to the byte at an address (R208, R209, R211, R213, R215). -/
def ldATo (a : Word) (s : State) : State := s.memWrite a s.a

/-- `LD A,r16mem[p]`: the access, then what becomes of HL (R206, R207, R216, R217). -/
def ldAAtMem (p : MemReg) (s : State) : State := (ldAFrom (s.memRegAddr p) s).memRegAfter p

/-- `LD r16mem[p],A`: the access, then what becomes of HL (R208, R209, R218, R219). -/
def ldAtMemA (p : MemReg) (s : State) : State := (ldATo (s.memRegAddr p) s).memRegAfter p

/-! ## The instructions -/

/-- `LD (BC),A` (R208). -/
def execLdAtBcA (s : State) : Result := complete 8 (ldAtMemA .bc s)
/-- `LD B,n8` (R202). -/
def execLdBN8 (n : Byte) (s : State) : Result := complete 8 (ldRegN8 .b n s)
/-- `LD A,(BC)` (R206). -/
def execLdAAtBc (s : State) : Result := complete 8 (ldAAtMem .bc s)
/-- `LD C,n8` (R202). -/
def execLdCN8 (n : Byte) (s : State) : Result := complete 8 (ldRegN8 .c n s)
/-- `LD (DE),A` (R209). -/
def execLdAtDeA (s : State) : Result := complete 8 (ldAtMemA .de s)
/-- `LD D,n8` (R202). -/
def execLdDN8 (n : Byte) (s : State) : Result := complete 8 (ldRegN8 .d n s)
/-- `LD A,(DE)` (R207). -/
def execLdAAtDe (s : State) : Result := complete 8 (ldAAtMem .de s)
/-- `LD E,n8` (R202). -/
def execLdEN8 (n : Byte) (s : State) : Result := complete 8 (ldRegN8 .e n s)
/-- `LD (HL+),A` (R218). -/
def execLdAtHlIncA (s : State) : Result := complete 8 (ldAtMemA .hlInc s)
/-- `LD H,n8` (R202). -/
def execLdHN8 (n : Byte) (s : State) : Result := complete 8 (ldRegN8 .h n s)
/-- `LD A,(HL+)` (R216). -/
def execLdAAtHlInc (s : State) : Result := complete 8 (ldAAtMem .hlInc s)
/-- `LD L,n8` (R202). -/
def execLdLN8 (n : Byte) (s : State) : Result := complete 8 (ldRegN8 .l n s)
/-- `LD (HL-),A` (R219). -/
def execLdAtHlDecA (s : State) : Result := complete 8 (ldAtMemA .hlDec s)
/-- `LD (HL),n8` (R205). -/
def execLdAtHlN8 (n : Byte) (s : State) : Result := complete 12 (s.memWrite s.hl n)
/-- `LD A,(HL-)` (R217). -/
def execLdAAtHlDec (s : State) : Result := complete 8 (ldAAtMem .hlDec s)
/-- `LD A,n8` (R202). -/
def execLdAN8 (n : Byte) (s : State) : Result := complete 8 (ldRegN8 .a n s)
/-- `LD B,B` (R201). -/
def execLdBB (s : State) : Result := complete 4 (ldRegReg .b .b s)
/-- `LD B,C` (R201). -/
def execLdBC (s : State) : Result := complete 4 (ldRegReg .b .c s)
/-- `LD B,D` (R201). -/
def execLdBD (s : State) : Result := complete 4 (ldRegReg .b .d s)
/-- `LD B,E` (R201). -/
def execLdBE (s : State) : Result := complete 4 (ldRegReg .b .e s)
/-- `LD B,H` (R201). -/
def execLdBH (s : State) : Result := complete 4 (ldRegReg .b .h s)
/-- `LD B,L` (R201). -/
def execLdBL (s : State) : Result := complete 4 (ldRegReg .b .l s)
/-- `LD B,(HL)` (R203). -/
def execLdBAtHl (s : State) : Result := complete 8 (ldRegAtHl .b s)
/-- `LD B,A` (R201). -/
def execLdBA (s : State) : Result := complete 4 (ldRegReg .b .a s)
/-- `LD C,B` (R201). -/
def execLdCB (s : State) : Result := complete 4 (ldRegReg .c .b s)
/-- `LD C,C` (R201). -/
def execLdCC (s : State) : Result := complete 4 (ldRegReg .c .c s)
/-- `LD C,D` (R201). -/
def execLdCD (s : State) : Result := complete 4 (ldRegReg .c .d s)
/-- `LD C,E` (R201). -/
def execLdCE (s : State) : Result := complete 4 (ldRegReg .c .e s)
/-- `LD C,H` (R201). -/
def execLdCH (s : State) : Result := complete 4 (ldRegReg .c .h s)
/-- `LD C,L` (R201). -/
def execLdCL (s : State) : Result := complete 4 (ldRegReg .c .l s)
/-- `LD C,(HL)` (R203). -/
def execLdCAtHl (s : State) : Result := complete 8 (ldRegAtHl .c s)
/-- `LD C,A` (R201). -/
def execLdCA (s : State) : Result := complete 4 (ldRegReg .c .a s)
/-- `LD D,B` (R201). -/
def execLdDB (s : State) : Result := complete 4 (ldRegReg .d .b s)
/-- `LD D,C` (R201). -/
def execLdDC (s : State) : Result := complete 4 (ldRegReg .d .c s)
/-- `LD D,D` (R201). -/
def execLdDD (s : State) : Result := complete 4 (ldRegReg .d .d s)
/-- `LD D,E` (R201). -/
def execLdDE (s : State) : Result := complete 4 (ldRegReg .d .e s)
/-- `LD D,H` (R201). -/
def execLdDH (s : State) : Result := complete 4 (ldRegReg .d .h s)
/-- `LD D,L` (R201). -/
def execLdDL (s : State) : Result := complete 4 (ldRegReg .d .l s)
/-- `LD D,(HL)` (R203). -/
def execLdDAtHl (s : State) : Result := complete 8 (ldRegAtHl .d s)
/-- `LD D,A` (R201). -/
def execLdDA (s : State) : Result := complete 4 (ldRegReg .d .a s)
/-- `LD E,B` (R201). -/
def execLdEB (s : State) : Result := complete 4 (ldRegReg .e .b s)
/-- `LD E,C` (R201). -/
def execLdEC (s : State) : Result := complete 4 (ldRegReg .e .c s)
/-- `LD E,D` (R201). -/
def execLdED (s : State) : Result := complete 4 (ldRegReg .e .d s)
/-- `LD E,E` (R201). -/
def execLdEE (s : State) : Result := complete 4 (ldRegReg .e .e s)
/-- `LD E,H` (R201). -/
def execLdEH (s : State) : Result := complete 4 (ldRegReg .e .h s)
/-- `LD E,L` (R201). -/
def execLdEL (s : State) : Result := complete 4 (ldRegReg .e .l s)
/-- `LD E,(HL)` (R203). -/
def execLdEAtHl (s : State) : Result := complete 8 (ldRegAtHl .e s)
/-- `LD E,A` (R201). -/
def execLdEA (s : State) : Result := complete 4 (ldRegReg .e .a s)
/-- `LD H,B` (R201). -/
def execLdHB (s : State) : Result := complete 4 (ldRegReg .h .b s)
/-- `LD H,C` (R201). -/
def execLdHC (s : State) : Result := complete 4 (ldRegReg .h .c s)
/-- `LD H,D` (R201). -/
def execLdHD (s : State) : Result := complete 4 (ldRegReg .h .d s)
/-- `LD H,E` (R201). -/
def execLdHE (s : State) : Result := complete 4 (ldRegReg .h .e s)
/-- `LD H,H` (R201). -/
def execLdHH (s : State) : Result := complete 4 (ldRegReg .h .h s)
/-- `LD H,L` (R201). -/
def execLdHL (s : State) : Result := complete 4 (ldRegReg .h .l s)
/-- `LD H,(HL)` (R203). -/
def execLdHAtHl (s : State) : Result := complete 8 (ldRegAtHl .h s)
/-- `LD H,A` (R201). -/
def execLdHA (s : State) : Result := complete 4 (ldRegReg .h .a s)
/-- `LD L,B` (R201). -/
def execLdLB (s : State) : Result := complete 4 (ldRegReg .l .b s)
/-- `LD L,C` (R201). -/
def execLdLC (s : State) : Result := complete 4 (ldRegReg .l .c s)
/-- `LD L,D` (R201). -/
def execLdLD (s : State) : Result := complete 4 (ldRegReg .l .d s)
/-- `LD L,E` (R201). -/
def execLdLE (s : State) : Result := complete 4 (ldRegReg .l .e s)
/-- `LD L,H` (R201). -/
def execLdLH (s : State) : Result := complete 4 (ldRegReg .l .h s)
/-- `LD L,L` (R201). -/
def execLdLL (s : State) : Result := complete 4 (ldRegReg .l .l s)
/-- `LD L,(HL)` (R203). -/
def execLdLAtHl (s : State) : Result := complete 8 (ldRegAtHl .l s)
/-- `LD L,A` (R201). -/
def execLdLA (s : State) : Result := complete 4 (ldRegReg .l .a s)
/-- `LD (HL),B` (R204). -/
def execLdAtHlB (s : State) : Result := complete 8 (ldAtHlReg .b s)
/-- `LD (HL),C` (R204). -/
def execLdAtHlC (s : State) : Result := complete 8 (ldAtHlReg .c s)
/-- `LD (HL),D` (R204). -/
def execLdAtHlD (s : State) : Result := complete 8 (ldAtHlReg .d s)
/-- `LD (HL),E` (R204). -/
def execLdAtHlE (s : State) : Result := complete 8 (ldAtHlReg .e s)
/-- `LD (HL),H` (R204). -/
def execLdAtHlH (s : State) : Result := complete 8 (ldAtHlReg .h s)
/-- `LD (HL),L` (R204). -/
def execLdAtHlL (s : State) : Result := complete 8 (ldAtHlReg .l s)
/-- `LD (HL),A` (R204). -/
def execLdAtHlA (s : State) : Result := complete 8 (ldAtHlReg .a s)
/-- `LD A,B` (R201). -/
def execLdAB (s : State) : Result := complete 4 (ldRegReg .a .b s)
/-- `LD A,C` (R201). -/
def execLdAC (s : State) : Result := complete 4 (ldRegReg .a .c s)
/-- `LD A,D` (R201). -/
def execLdAD (s : State) : Result := complete 4 (ldRegReg .a .d s)
/-- `LD A,E` (R201). -/
def execLdAE (s : State) : Result := complete 4 (ldRegReg .a .e s)
/-- `LD A,H` (R201). -/
def execLdAH (s : State) : Result := complete 4 (ldRegReg .a .h s)
/-- `LD A,L` (R201). -/
def execLdAL (s : State) : Result := complete 4 (ldRegReg .a .l s)
/-- `LD A,(HL)` (R203). -/
def execLdAAtHl (s : State) : Result := complete 8 (ldRegAtHl .a s)
/-- `LD A,A` (R201). -/
def execLdAA (s : State) : Result := complete 4 (ldRegReg .a .a s)
/-- `LDH (a8),A` (R213). -/
def execLdhAtA8A (a : Byte) (s : State) : Result := complete 12 (ldATo (highAddr a) s)
/-- `LD (C),A` (R215). -/
def execLdAtCA (s : State) : Result := complete 8 (ldATo (highAddr s.c) s)
/-- `LD (n16),A` (R211). -/
def execLdAtN16A (n : Word) (s : State) : Result := complete 16 (ldATo n s)
/-- `LDH A,(a8)` (R212). -/
def execLdhAAtA8 (a : Byte) (s : State) : Result := complete 12 (ldAFrom (highAddr a) s)
/-- `LD A,(C)` (R214). -/
def execLdAAtC (s : State) : Result := complete 8 (ldAFrom (highAddr s.c) s)
/-- `LD A,(n16)` (R210). -/
def execLdAAtN16 (n : Word) (s : State) : Result := complete 16 (ldAFrom n s)

end Sys2Proof.Machine
end

