-- ==== Sys2Proof/WellFormed.lean ====
section
/-! DEFINITION. Which terms of `Instr` are whole instructions. -/

namespace Sys2Proof

/-- Every row of the table is a whole instruction but the bare prefix byte: it "is not itself executed", and only with
the extended opcode after it is there an instruction (R150, R395). Operand bytes need no check: every value is valid. -/
def Instr.wellFormed (i : Instr) : Bool :=
  match i with
  | .prefixCb => false
  | _ => true

end Sys2Proof
end

