-- ==== Sys2Proof/Decode.lean ====
section
/-! DEFINITION. From bytes to instructions by the fields of the opcode (R150–R166), and the encoder back, written from
the printed map (R168). Decoding is total on the standard and the extended opcode (R151); only a list of bytes that ends
inside an instruction is rejected, by name. -/

namespace Sys2Proof

/-! ## The rows of the table by their operand codes -/

/-- The rows of `LD r,r'` by operand code (R201). -/
def Row.ldRegReg : Reg8 → Reg8 → Instr
  | .b, .b => .ldBB
  | .b, .c => .ldBC
  | .b, .d => .ldBD
  | .b, .e => .ldBE
  | .b, .h => .ldBH
  | .b, .l => .ldBL
  | .b, .a => .ldBA
  | .c, .b => .ldCB
  | .c, .c => .ldCC
  | .c, .d => .ldCD
  | .c, .e => .ldCE
  | .c, .h => .ldCH
  | .c, .l => .ldCL
  | .c, .a => .ldCA
  | .d, .b => .ldDB
  | .d, .c => .ldDC
  | .d, .d => .ldDD
  | .d, .e => .ldDE
  | .d, .h => .ldDH
  | .d, .l => .ldDL
  | .d, .a => .ldDA
  | .e, .b => .ldEB
  | .e, .c => .ldEC
  | .e, .d => .ldED
  | .e, .e => .ldEE
  | .e, .h => .ldEH
  | .e, .l => .ldEL
  | .e, .a => .ldEA
  | .h, .b => .ldHB
  | .h, .c => .ldHC
  | .h, .d => .ldHD
  | .h, .e => .ldHE
  | .h, .h => .ldHH
  | .h, .l => .ldHL
  | .h, .a => .ldHA
  | .l, .b => .ldLB
  | .l, .c => .ldLC
  | .l, .d => .ldLD
  | .l, .e => .ldLE
  | .l, .h => .ldLH
  | .l, .l => .ldLL
  | .l, .a => .ldLA
  | .a, .b => .ldAB
  | .a, .c => .ldAC
  | .a, .d => .ldAD
  | .a, .e => .ldAE
  | .a, .h => .ldAH
  | .a, .l => .ldAL
  | .a, .a => .ldAA

/-- The rows of `LD r,n8` by operand code (R202). -/
def Row.ldRegN8 : Reg8 → Byte → Instr
  | .b, n => .ldBN8 n
  | .c, n => .ldCN8 n
  | .d, n => .ldDN8 n
  | .e, n => .ldEN8 n
  | .h, n => .ldHN8 n
  | .l, n => .ldLN8 n
  | .a, n => .ldAN8 n

/-- The rows of `LD r,(HL)` by operand code (R203). -/
def Row.ldRegAtHl : Reg8 → Instr
  | .b => .ldBAtHl
  | .c => .ldCAtHl
  | .d => .ldDAtHl
  | .e => .ldEAtHl
  | .h => .ldHAtHl
  | .l => .ldLAtHl
  | .a => .ldAAtHl

/-- The rows of `LD (HL),r` by operand code (R204). -/
def Row.ldAtHlReg : Reg8 → Instr
  | .b => .ldAtHlB
  | .c => .ldAtHlC
  | .d => .ldAtHlD
  | .e => .ldAtHlE
  | .h => .ldAtHlH
  | .l => .ldAtHlL
  | .a => .ldAtHlA

/-- The rows of `LD A,(BC)`, `LD A,(DE)`, `LD A,(HL+)`, `LD A,(HL-)` by operand code (R206, R207, R216, R217). -/
def Row.ldAAtMem : MemReg → Instr
  | .bc => .ldAAtBc
  | .de => .ldAAtDe
  | .hlInc => .ldAAtHlInc
  | .hlDec => .ldAAtHlDec

/-- The rows of `LD (BC),A`, `LD (DE),A`, `LD (HL+),A`, `LD (HL-),A` by operand code (R208, R209, R218, R219). -/
def Row.ldAtMemA : MemReg → Instr
  | .bc => .ldAtBcA
  | .de => .ldAtDeA
  | .hlInc => .ldAtHlIncA
  | .hlDec => .ldAtHlDecA

/-- The rows of `LD rr,n16` by operand code (R242). -/
def Row.ldPairN16 : Reg16 → Word → Instr
  | .bc, n => .ldBcN16 n
  | .de, n => .ldDeN16 n
  | .hl, n => .ldHlN16 n
  | .sp, n => .ldSpN16 n

/-- The rows of `PUSH rr` by operand code (R246). -/
def Row.push : StackReg → Instr
  | .bc => .pushBc
  | .de => .pushDe
  | .hl => .pushHl
  | .af => .pushAf

/-- The rows of `POP rr` by operand code (R247, R248). -/
def Row.pop : StackReg → Instr
  | .bc => .popBc
  | .de => .popDe
  | .hl => .popHl
  | .af => .popAf

/-- The rows of the eight operations of A with a register or (HL), by operand code (R263–R286). -/
def Row.alu : AluOp → Operand8 → Instr
  | .add, .reg .b => .addAB
  | .add, .reg .c => .addAC
  | .add, .reg .d => .addAD
  | .add, .reg .e => .addAE
  | .add, .reg .h => .addAH
  | .add, .reg .l => .addAL
  | .add, .atHl => .addAAtHl
  | .add, .reg .a => .addAA
  | .adc, .reg .b => .adcAB
  | .adc, .reg .c => .adcAC
  | .adc, .reg .d => .adcAD
  | .adc, .reg .e => .adcAE
  | .adc, .reg .h => .adcAH
  | .adc, .reg .l => .adcAL
  | .adc, .atHl => .adcAAtHl
  | .adc, .reg .a => .adcAA
  | .sub, .reg .b => .subB
  | .sub, .reg .c => .subC
  | .sub, .reg .d => .subD
  | .sub, .reg .e => .subE
  | .sub, .reg .h => .subH
  | .sub, .reg .l => .subL
  | .sub, .atHl => .subAtHl
  | .sub, .reg .a => .subA
  | .sbc, .reg .b => .sbcAB
  | .sbc, .reg .c => .sbcAC
  | .sbc, .reg .d => .sbcAD
  | .sbc, .reg .e => .sbcAE
  | .sbc, .reg .h => .sbcAH
  | .sbc, .reg .l => .sbcAL
  | .sbc, .atHl => .sbcAAtHl
  | .sbc, .reg .a => .sbcAA
  | .and, .reg .b => .andB
  | .and, .reg .c => .andC
  | .and, .reg .d => .andD
  | .and, .reg .e => .andE
  | .and, .reg .h => .andH
  | .and, .reg .l => .andL
  | .and, .atHl => .andAtHl
  | .and, .reg .a => .andA
  | .xor, .reg .b => .xorB
  | .xor, .reg .c => .xorC
  | .xor, .reg .d => .xorD
  | .xor, .reg .e => .xorE
  | .xor, .reg .h => .xorH
  | .xor, .reg .l => .xorL
  | .xor, .atHl => .xorAtHl
  | .xor, .reg .a => .xorA
  | .or, .reg .b => .orB
  | .or, .reg .c => .orC
  | .or, .reg .d => .orD
  | .or, .reg .e => .orE
  | .or, .reg .h => .orH
  | .or, .reg .l => .orL
  | .or, .atHl => .orAtHl
  | .or, .reg .a => .orA
  | .cp, .reg .b => .cpB
  | .cp, .reg .c => .cpC
  | .cp, .reg .d => .cpD
  | .cp, .reg .e => .cpE
  | .cp, .reg .h => .cpH
  | .cp, .reg .l => .cpL
  | .cp, .atHl => .cpAtHl
  | .cp, .reg .a => .cpA

/-- The rows of the eight operations of A with n8, by operand code (R265–R286). -/
def Row.aluN8 : AluOp → Byte → Instr
  | .add, n => .addAN8 n
  | .adc, n => .adcAN8 n
  | .sub, n => .subN8 n
  | .sbc, n => .sbcAN8 n
  | .and, n => .andN8 n
  | .xor, n => .xorN8 n
  | .or, n => .orN8 n
  | .cp, n => .cpN8 n

/-- The rows of `INC r`, `INC (HL)` by operand code (R287, R288). -/
def Row.inc8 : Operand8 → Instr
  | .reg .b => .incB
  | .reg .c => .incC
  | .reg .d => .incD
  | .reg .e => .incE
  | .reg .h => .incH
  | .reg .l => .incL
  | .atHl => .incAtHl
  | .reg .a => .incA

/-- The rows of `DEC r`, `DEC (HL)` by operand code (R289, R290). -/
def Row.dec8 : Operand8 → Instr
  | .reg .b => .decB
  | .reg .c => .decC
  | .reg .d => .decD
  | .reg .e => .decE
  | .reg .h => .decH
  | .reg .l => .decL
  | .atHl => .decAtHl
  | .reg .a => .decA

/-- The rows of `ADD HL,rr` by operand code (R300). -/
def Row.addHl : Reg16 → Instr
  | .bc => .addHlBc
  | .de => .addHlDe
  | .hl => .addHlHl
  | .sp => .addHlSp

/-- The rows of `INC rr` by operand code (R301). -/
def Row.inc16 : Reg16 → Instr
  | .bc => .incBc
  | .de => .incDe
  | .hl => .incHl
  | .sp => .incSp

/-- The rows of `DEC rr` by operand code (R302). -/
def Row.dec16 : Reg16 → Instr
  | .bc => .decBc
  | .de => .decDe
  | .hl => .decHl
  | .sp => .decSp

/-- The rows of the eight CB shifts and rotates, by operand code (R325–R340). -/
def Row.shift : ShiftOp → Operand8 → Instr
  | .rlc, .reg .b => .rlcB
  | .rlc, .reg .c => .rlcC
  | .rlc, .reg .d => .rlcD
  | .rlc, .reg .e => .rlcE
  | .rlc, .reg .h => .rlcH
  | .rlc, .reg .l => .rlcL
  | .rlc, .atHl => .rlcAtHl
  | .rlc, .reg .a => .rlcA
  | .rrc, .reg .b => .rrcB
  | .rrc, .reg .c => .rrcC
  | .rrc, .reg .d => .rrcD
  | .rrc, .reg .e => .rrcE
  | .rrc, .reg .h => .rrcH
  | .rrc, .reg .l => .rrcL
  | .rrc, .atHl => .rrcAtHl
  | .rrc, .reg .a => .rrcA
  | .rl, .reg .b => .rlB
  | .rl, .reg .c => .rlC
  | .rl, .reg .d => .rlD
  | .rl, .reg .e => .rlE
  | .rl, .reg .h => .rlH
  | .rl, .reg .l => .rlL
  | .rl, .atHl => .rlAtHl
  | .rl, .reg .a => .rlA
  | .rr, .reg .b => .rrB
  | .rr, .reg .c => .rrC
  | .rr, .reg .d => .rrD
  | .rr, .reg .e => .rrE
  | .rr, .reg .h => .rrH
  | .rr, .reg .l => .rrL
  | .rr, .atHl => .rrAtHl
  | .rr, .reg .a => .rrA
  | .sla, .reg .b => .slaB
  | .sla, .reg .c => .slaC
  | .sla, .reg .d => .slaD
  | .sla, .reg .e => .slaE
  | .sla, .reg .h => .slaH
  | .sla, .reg .l => .slaL
  | .sla, .atHl => .slaAtHl
  | .sla, .reg .a => .slaA
  | .sra, .reg .b => .sraB
  | .sra, .reg .c => .sraC
  | .sra, .reg .d => .sraD
  | .sra, .reg .e => .sraE
  | .sra, .reg .h => .sraH
  | .sra, .reg .l => .sraL
  | .sra, .atHl => .sraAtHl
  | .sra, .reg .a => .sraA
  | .swap, .reg .b => .swapB
  | .swap, .reg .c => .swapC
  | .swap, .reg .d => .swapD
  | .swap, .reg .e => .swapE
  | .swap, .reg .h => .swapH
  | .swap, .reg .l => .swapL
  | .swap, .atHl => .swapAtHl
  | .swap, .reg .a => .swapA
  | .srl, .reg .b => .srlB
  | .srl, .reg .c => .srlC
  | .srl, .reg .d => .srlD
  | .srl, .reg .e => .srlE
  | .srl, .reg .h => .srlH
  | .srl, .reg .l => .srlL
  | .srl, .atHl => .srlAtHl
  | .srl, .reg .a => .srlA

/-- The rows of `BIT b,r`, `BIT b,(HL)` by operand code (R341, R342). -/
def Row.bit : Fin 8 → Operand8 → Instr
  | 0, .reg .b => .bit0B
  | 0, .reg .c => .bit0C
  | 0, .reg .d => .bit0D
  | 0, .reg .e => .bit0E
  | 0, .reg .h => .bit0H
  | 0, .reg .l => .bit0L
  | 0, .atHl => .bit0AtHl
  | 0, .reg .a => .bit0A
  | 1, .reg .b => .bit1B
  | 1, .reg .c => .bit1C
  | 1, .reg .d => .bit1D
  | 1, .reg .e => .bit1E
  | 1, .reg .h => .bit1H
  | 1, .reg .l => .bit1L
  | 1, .atHl => .bit1AtHl
  | 1, .reg .a => .bit1A
  | 2, .reg .b => .bit2B
  | 2, .reg .c => .bit2C
  | 2, .reg .d => .bit2D
  | 2, .reg .e => .bit2E
  | 2, .reg .h => .bit2H
  | 2, .reg .l => .bit2L
  | 2, .atHl => .bit2AtHl
  | 2, .reg .a => .bit2A
  | 3, .reg .b => .bit3B
  | 3, .reg .c => .bit3C
  | 3, .reg .d => .bit3D
  | 3, .reg .e => .bit3E
  | 3, .reg .h => .bit3H
  | 3, .reg .l => .bit3L
  | 3, .atHl => .bit3AtHl
  | 3, .reg .a => .bit3A
  | 4, .reg .b => .bit4B
  | 4, .reg .c => .bit4C
  | 4, .reg .d => .bit4D
  | 4, .reg .e => .bit4E
  | 4, .reg .h => .bit4H
  | 4, .reg .l => .bit4L
  | 4, .atHl => .bit4AtHl
  | 4, .reg .a => .bit4A
  | 5, .reg .b => .bit5B
  | 5, .reg .c => .bit5C
  | 5, .reg .d => .bit5D
  | 5, .reg .e => .bit5E
  | 5, .reg .h => .bit5H
  | 5, .reg .l => .bit5L
  | 5, .atHl => .bit5AtHl
  | 5, .reg .a => .bit5A
  | 6, .reg .b => .bit6B
  | 6, .reg .c => .bit6C
  | 6, .reg .d => .bit6D
  | 6, .reg .e => .bit6E
  | 6, .reg .h => .bit6H
  | 6, .reg .l => .bit6L
  | 6, .atHl => .bit6AtHl
  | 6, .reg .a => .bit6A
  | 7, .reg .b => .bit7B
  | 7, .reg .c => .bit7C
  | 7, .reg .d => .bit7D
  | 7, .reg .e => .bit7E
  | 7, .reg .h => .bit7H
  | 7, .reg .l => .bit7L
  | 7, .atHl => .bit7AtHl
  | 7, .reg .a => .bit7A

/-- The rows of `RES b,r`, `RES b,(HL)` by operand code (R343, R344). -/
def Row.res : Fin 8 → Operand8 → Instr
  | 0, .reg .b => .res0B
  | 0, .reg .c => .res0C
  | 0, .reg .d => .res0D
  | 0, .reg .e => .res0E
  | 0, .reg .h => .res0H
  | 0, .reg .l => .res0L
  | 0, .atHl => .res0AtHl
  | 0, .reg .a => .res0A
  | 1, .reg .b => .res1B
  | 1, .reg .c => .res1C
  | 1, .reg .d => .res1D
  | 1, .reg .e => .res1E
  | 1, .reg .h => .res1H
  | 1, .reg .l => .res1L
  | 1, .atHl => .res1AtHl
  | 1, .reg .a => .res1A
  | 2, .reg .b => .res2B
  | 2, .reg .c => .res2C
  | 2, .reg .d => .res2D
  | 2, .reg .e => .res2E
  | 2, .reg .h => .res2H
  | 2, .reg .l => .res2L
  | 2, .atHl => .res2AtHl
  | 2, .reg .a => .res2A
  | 3, .reg .b => .res3B
  | 3, .reg .c => .res3C
  | 3, .reg .d => .res3D
  | 3, .reg .e => .res3E
  | 3, .reg .h => .res3H
  | 3, .reg .l => .res3L
  | 3, .atHl => .res3AtHl
  | 3, .reg .a => .res3A
  | 4, .reg .b => .res4B
  | 4, .reg .c => .res4C
  | 4, .reg .d => .res4D
  | 4, .reg .e => .res4E
  | 4, .reg .h => .res4H
  | 4, .reg .l => .res4L
  | 4, .atHl => .res4AtHl
  | 4, .reg .a => .res4A
  | 5, .reg .b => .res5B
  | 5, .reg .c => .res5C
  | 5, .reg .d => .res5D
  | 5, .reg .e => .res5E
  | 5, .reg .h => .res5H
  | 5, .reg .l => .res5L
  | 5, .atHl => .res5AtHl
  | 5, .reg .a => .res5A
  | 6, .reg .b => .res6B
  | 6, .reg .c => .res6C
  | 6, .reg .d => .res6D
  | 6, .reg .e => .res6E
  | 6, .reg .h => .res6H
  | 6, .reg .l => .res6L
  | 6, .atHl => .res6AtHl
  | 6, .reg .a => .res6A
  | 7, .reg .b => .res7B
  | 7, .reg .c => .res7C
  | 7, .reg .d => .res7D
  | 7, .reg .e => .res7E
  | 7, .reg .h => .res7H
  | 7, .reg .l => .res7L
  | 7, .atHl => .res7AtHl
  | 7, .reg .a => .res7A

/-- The rows of `SET b,r`, `SET b,(HL)` by operand code (R345, R346). -/
def Row.set : Fin 8 → Operand8 → Instr
  | 0, .reg .b => .set0B
  | 0, .reg .c => .set0C
  | 0, .reg .d => .set0D
  | 0, .reg .e => .set0E
  | 0, .reg .h => .set0H
  | 0, .reg .l => .set0L
  | 0, .atHl => .set0AtHl
  | 0, .reg .a => .set0A
  | 1, .reg .b => .set1B
  | 1, .reg .c => .set1C
  | 1, .reg .d => .set1D
  | 1, .reg .e => .set1E
  | 1, .reg .h => .set1H
  | 1, .reg .l => .set1L
  | 1, .atHl => .set1AtHl
  | 1, .reg .a => .set1A
  | 2, .reg .b => .set2B
  | 2, .reg .c => .set2C
  | 2, .reg .d => .set2D
  | 2, .reg .e => .set2E
  | 2, .reg .h => .set2H
  | 2, .reg .l => .set2L
  | 2, .atHl => .set2AtHl
  | 2, .reg .a => .set2A
  | 3, .reg .b => .set3B
  | 3, .reg .c => .set3C
  | 3, .reg .d => .set3D
  | 3, .reg .e => .set3E
  | 3, .reg .h => .set3H
  | 3, .reg .l => .set3L
  | 3, .atHl => .set3AtHl
  | 3, .reg .a => .set3A
  | 4, .reg .b => .set4B
  | 4, .reg .c => .set4C
  | 4, .reg .d => .set4D
  | 4, .reg .e => .set4E
  | 4, .reg .h => .set4H
  | 4, .reg .l => .set4L
  | 4, .atHl => .set4AtHl
  | 4, .reg .a => .set4A
  | 5, .reg .b => .set5B
  | 5, .reg .c => .set5C
  | 5, .reg .d => .set5D
  | 5, .reg .e => .set5E
  | 5, .reg .h => .set5H
  | 5, .reg .l => .set5L
  | 5, .atHl => .set5AtHl
  | 5, .reg .a => .set5A
  | 6, .reg .b => .set6B
  | 6, .reg .c => .set6C
  | 6, .reg .d => .set6D
  | 6, .reg .e => .set6E
  | 6, .reg .h => .set6H
  | 6, .reg .l => .set6L
  | 6, .atHl => .set6AtHl
  | 6, .reg .a => .set6A
  | 7, .reg .b => .set7B
  | 7, .reg .c => .set7C
  | 7, .reg .d => .set7D
  | 7, .reg .e => .set7E
  | 7, .reg .h => .set7H
  | 7, .reg .l => .set7L
  | 7, .atHl => .set7AtHl
  | 7, .reg .a => .set7A

/-- The rows of `JP cc,n16` by operand code (R362). -/
def Row.jpCond : Cond → Word → Instr
  | .nz, n => .jpNzN16 n
  | .z, n => .jpZN16 n
  | .nc, n => .jpNcN16 n
  | .c, n => .jpCN16 n

/-- The rows of `JR cc,e8` by operand code (R365). -/
def Row.jrCond : Cond → Byte → Instr
  | .nz, e => .jrNzE8 e
  | .z, e => .jrZE8 e
  | .nc, e => .jrNcE8 e
  | .c, e => .jrCE8 e

/-- The rows of `CALL cc,n16` by operand code (R367). -/
def Row.callCond : Cond → Word → Instr
  | .nz, n => .callNzN16 n
  | .z, n => .callZN16 n
  | .nc, n => .callNcN16 n
  | .c, n => .callCN16 n

/-- The rows of `RET cc` by operand code (R369). -/
def Row.retCond : Cond → Instr
  | .nz => .retNz
  | .z => .retZ
  | .nc => .retNc
  | .c => .retC

/-- The rows of `RST t` by operand code (R371). -/
def Row.rst : Fin 8 → Instr
  | 0 => .rst00
  | 1 => .rst08
  | 2 => .rst10
  | 3 => .rst18
  | 4 => .rst20
  | 5 => .rst28
  | 6 => .rst30
  | 7 => .rst38

/-- The rows of the unused opcodes, by operand code (R396). -/
def Row.unused : UnusedOpcode → Instr
  | .d3 => .unusedD3
  | .db => .unusedDb
  | .dd => .unusedDd
  | .e3 => .unusedE3
  | .e4 => .unusedE4
  | .eb => .unusedEb
  | .ec => .unusedEc
  | .ed => .unusedEd
  | .f4 => .unusedF4
  | .fc => .unusedFc
  | .fd => .unusedFd

/-! ## The fields of an opcode byte (R152) -/

/-- `op[7:6]`. -/
def fieldX (op : Byte) : Fin 4 := (op.extractLsb' 6 2).toFin

/-- `op[5:3]`. -/
def fieldY (op : Byte) : Fin 8 := (op.extractLsb' 3 3).toFin

/-- `op[2:0]`. -/
def fieldZ (op : Byte) : Fin 8 := (op.extractLsb' 0 3).toFin

/-- `p = y >> 1`. -/
def fieldP (y : Fin 8) : Fin 4 := ⟨y.val / 2, by omega⟩

/-- `q = y & 1`, as a truth value. -/
def fieldQ (y : Fin 8) : Bool := y.val % 2 == 1

/-- `r8[c]` (R153). -/
def operand8Of : Fin 8 → Operand8
  | 0 => .reg .b
  | 1 => .reg .c
  | 2 => .reg .d
  | 3 => .reg .e
  | 4 => .reg .h
  | 5 => .reg .l
  | 6 => .atHl
  | 7 => .reg .a

/-- `r16[p]` (R154). -/
def reg16Of : Fin 4 → Reg16
  | 0 => .bc
  | 1 => .de
  | 2 => .hl
  | 3 => .sp

/-- `r16stk[p]` (R155). -/
def stackRegOf : Fin 4 → StackReg
  | 0 => .bc
  | 1 => .de
  | 2 => .hl
  | 3 => .af

/-- `r16mem[p]` (R156). -/
def memRegOf : Fin 4 → MemReg
  | 0 => .bc
  | 1 => .de
  | 2 => .hlInc
  | 3 => .hlDec

/-- `cc[c]` (R157). -/
def condOf : Fin 4 → Cond
  | 0 => .nz
  | 1 => .z
  | 2 => .nc
  | 3 => .c

/-- The condition in the low two bits of `y` (R157: `y` of JP, CALL and RET, `y - 4` of JR). -/
def condOfY (y : Fin 8) : Cond := condOf ⟨y.val % 4, by omega⟩

/-- The ALU operation `y` (R161). -/
def aluOpOf : Fin 8 → AluOp
  | 0 => .add
  | 1 => .adc
  | 2 => .sub
  | 3 => .sbc
  | 4 => .and
  | 5 => .xor
  | 6 => .or
  | 7 => .cp

/-- The shift or rotate operation `y` (R163). -/
def shiftOpOf : Fin 8 → ShiftOp
  | 0 => .rlc
  | 1 => .rrc
  | 2 => .rl
  | 3 => .rr
  | 4 => .sla
  | 5 => .sra
  | 6 => .swap
  | 7 => .srl

/-! ## The two decode tables (R151, R415) -/

/-- A slot of the standard table: an instruction, given the operand bytes that its descriptor's length asks for (R150). -/
inductive Slot where
  /-- Length 1: no operand byte. -/
  | whole (i : Instr)
  /-- Length 2: one operand byte. -/
  | byte (f : Byte → Instr)
  /-- Length 3: two operand bytes, low byte first. -/
  | word (f : Word → Instr)

/-- Group `x = 0`, `z = 0` (R159). -/
def slotMisc : Fin 8 → Slot
  | 0 => .whole .nop
  | 1 => .word .ldAtN16Sp
  | 2 => .byte .stop
  | 3 => .byte .jrE8
  | 4 => .byte (Row.jrCond .nz)
  | 5 => .byte (Row.jrCond .z)
  | 6 => .byte (Row.jrCond .nc)
  | 7 => .byte (Row.jrCond .c)

/-- Group `x = 0`, `z = 6`: LD r8[y],n8 (R159). -/
def slotLdN8 (y : Fin 8) : Slot :=
  match operand8Of y with
  | .reg r => .byte (Row.ldRegN8 r)
  | .atHl => .byte .ldAtHlN8

/-- Group `x = 0`, `z = 7` (R159). -/
def slotAccumulator : Fin 8 → Slot
  | 0 => .whole .rlca
  | 1 => .whole .rrca
  | 2 => .whole .rla
  | 3 => .whole .rra
  | 4 => .whole .daa
  | 5 => .whole .cpl
  | 6 => .whole .scf
  | 7 => .whole .ccf

/-- Group `x = 0` (R159). -/
def slotGroup0 (y : Fin 8) : Fin 8 → Slot
  | 0 => slotMisc y
  | 1 => if fieldQ y then .whole (Row.addHl (reg16Of (fieldP y))) else .word (Row.ldPairN16 (reg16Of (fieldP y)))
  | 2 => .whole (if fieldQ y then Row.ldAAtMem (memRegOf (fieldP y)) else Row.ldAtMemA (memRegOf (fieldP y)))
  | 3 => .whole (if fieldQ y then Row.dec16 (reg16Of (fieldP y)) else Row.inc16 (reg16Of (fieldP y)))
  | 4 => .whole (Row.inc8 (operand8Of y))
  | 5 => .whole (Row.dec8 (operand8Of y))
  | 6 => slotLdN8 y
  | 7 => slotAccumulator y

/-- Group `x = 1`: LD r8[y],r8[z], and HALT where both codes are 6 (R160). -/
def slotGroup1 (y z : Fin 8) : Slot :=
  match operand8Of y, operand8Of z with
  | .reg dst, .reg src => .whole (Row.ldRegReg dst src)
  | .reg dst, .atHl => .whole (Row.ldRegAtHl dst)
  | .atHl, .reg src => .whole (Row.ldAtHlReg src)
  | .atHl, .atHl => .whole .halt

/-- Group `x = 3`, `z = 0` (R162). -/
def slotRetHigh : Fin 8 → Slot
  | 4 => .byte .ldhAtA8A
  | 5 => .byte .addSpE8
  | 6 => .byte .ldhAAtA8
  | 7 => .byte .ldHlSpE8
  | y => .whole (Row.retCond (condOfY y))

/-- Group `x = 3`, `z = 1` (R162). -/
def slotPopRet : Fin 8 → Slot
  | 1 => .whole .ret
  | 3 => .whole .reti
  | 5 => .whole .jpHl
  | 7 => .whole .ldSpHl
  | y => .whole (Row.pop (stackRegOf (fieldP y)))

/-- Group `x = 3`, `z = 2` (R162). -/
def slotJpHigh : Fin 8 → Slot
  | 4 => .whole .ldAtCA
  | 5 => .word .ldAtN16A
  | 6 => .whole .ldAAtC
  | 7 => .word .ldAAtN16
  | y => .word (Row.jpCond (condOfY y))

/-- Group `x = 3`, `z = 3` (R162, R164). -/
def slotJpPrefix : Fin 8 → Slot
  | 0 => .word .jpN16
  | 1 => .whole .prefixCb
  | 2 => .whole (Row.unused .d3)
  | 3 => .whole (Row.unused .db)
  | 4 => .whole (Row.unused .e3)
  | 5 => .whole (Row.unused .eb)
  | 6 => .whole .di
  | 7 => .whole .ei

/-- Group `x = 3`, `z = 4` (R162, R164). -/
def slotCallCond : Fin 8 → Slot
  | 4 => .whole (Row.unused .e4)
  | 5 => .whole (Row.unused .ec)
  | 6 => .whole (Row.unused .f4)
  | 7 => .whole (Row.unused .fc)
  | y => .word (Row.callCond (condOfY y))

/-- Group `x = 3`, `z = 5` (R162, R164). -/
def slotPushCall : Fin 8 → Slot
  | 1 => .word .callN16
  | 3 => .whole (Row.unused .dd)
  | 5 => .whole (Row.unused .ed)
  | 7 => .whole (Row.unused .fd)
  | y => .whole (Row.push (stackRegOf (fieldP y)))

/-- Group `x = 3` (R162). -/
def slotGroup3 (y : Fin 8) : Fin 8 → Slot
  | 0 => slotRetHigh y
  | 1 => slotPopRet y
  | 2 => slotJpHigh y
  | 3 => slotJpPrefix y
  | 4 => slotCallCond y
  | 5 => slotPushCall y
  | 6 => .byte (Row.aluN8 (aluOpOf y))
  | 7 => .whole (Row.rst y)

/-- `STD`, the standard table (R159–R162, R415). -/
def stdSlot (op : Byte) : Slot :=
  match fieldX op with
  | 0 => slotGroup0 (fieldY op) (fieldZ op)
  | 1 => slotGroup1 (fieldY op) (fieldZ op)
  | 2 => .whole (Row.alu (aluOpOf (fieldY op)) (operand8Of (fieldZ op)))
  | 3 => slotGroup3 (fieldY op) (fieldZ op)

/-- `EXT`, the extended table (R163, R415). Every slot is an instruction. -/
def extInstr (op2 : Byte) : Instr :=
  match fieldX op2 with
  | 0 => Row.shift (shiftOpOf (fieldY op2)) (operand8Of (fieldZ op2))
  | 1 => Row.bit (fieldY op2) (operand8Of (fieldZ op2))
  | 2 => Row.res (fieldY op2) (operand8Of (fieldZ op2))
  | 3 => Row.set (fieldY op2) (operand8Of (fieldZ op2))

/-- The prefix byte (R150). -/
def prefixByte : Byte := 0xCB

/-- The descriptor's byte-length (R150, R166): of the prefix byte alone it is 1, as its row says. -/
def Slot.length : Slot → Nat
  | .whole _ => 1
  | .byte _ => 2
  | .word _ => 3

/-- The length of the instruction that begins with `op`, learnt from that byte alone (R166). -/
def instrLength (op : Byte) : Nat :=
  if op = prefixByte then 2 else (stdSlot op).length

/-! ## Decoding a list of bytes -/

/-- Why a list of bytes is no instruction: it ends too early. No opcode is rejected. -/
inductive DecodeError where
  /-- The list is empty: there is no opcode. -/
  | noOpcode
  /-- The descriptor of `op` asks for operand bytes that the list does not hold. -/
  | missingOperand (op : Byte)
  deriving DecidableEq, Repr

/-- The instruction at the head of a list of bytes and the bytes after it. A prefix byte with an extended opcode after
it is the extended instruction (R150, R166); a prefix byte that ends the list is the table's row of the bare prefix. -/
def decode : List Byte → Except DecodeError (Instr × List Byte)
  | [] => .error .noOpcode
  | op :: rest =>
    if op = prefixByte then
      match rest with
      | [] => .ok (.prefixCb, [])
      | op2 :: rest => .ok (extInstr op2, rest)
    else
      match stdSlot op, rest with
      | .whole i, rest => .ok (i, rest)
      | .byte f, n :: rest => .ok (f n, rest)
      | .word f, lo :: hi :: rest => .ok (f (wordOf hi lo), rest)
      | _, _ => .error (.missingOperand op)

/-- The instruction that a list of bytes is, if it is one and no byte is left over. -/
def decodeWhole (bytes : List Byte) : Option Instr :=
  match decode bytes with
  | .ok (i, []) => some i
  | _ => none

/-! ## The encoder, from the printed map (R168) -/

/-- The bytes of an instruction, in address order: opcode, then operands, low byte first (R150, R158). -/
def encode : Instr → List Byte
  | .nop => [0x00]
  | .ldBcN16 n => [0x01, loByte n, hiByte n]
  | .ldAtBcA => [0x02]
  | .incBc => [0x03]
  | .incB => [0x04]
  | .decB => [0x05]
  | .ldBN8 n => [0x06, n]
  | .rlca => [0x07]
  | .ldAtN16Sp n => [0x08, loByte n, hiByte n]
  | .addHlBc => [0x09]
  | .ldAAtBc => [0x0A]
  | .decBc => [0x0B]
  | .incC => [0x0C]
  | .decC => [0x0D]
  | .ldCN8 n => [0x0E, n]
  | .rrca => [0x0F]
  | .stop ignored => [0x10, ignored]
  | .ldDeN16 n => [0x11, loByte n, hiByte n]
  | .ldAtDeA => [0x12]
  | .incDe => [0x13]
  | .incD => [0x14]
  | .decD => [0x15]
  | .ldDN8 n => [0x16, n]
  | .rla => [0x17]
  | .jrE8 e => [0x18, e]
  | .addHlDe => [0x19]
  | .ldAAtDe => [0x1A]
  | .decDe => [0x1B]
  | .incE => [0x1C]
  | .decE => [0x1D]
  | .ldEN8 n => [0x1E, n]
  | .rra => [0x1F]
  | .jrNzE8 e => [0x20, e]
  | .ldHlN16 n => [0x21, loByte n, hiByte n]
  | .ldAtHlIncA => [0x22]
  | .incHl => [0x23]
  | .incH => [0x24]
  | .decH => [0x25]
  | .ldHN8 n => [0x26, n]
  | .daa => [0x27]
  | .jrZE8 e => [0x28, e]
  | .addHlHl => [0x29]
  | .ldAAtHlInc => [0x2A]
  | .decHl => [0x2B]
  | .incL => [0x2C]
  | .decL => [0x2D]
  | .ldLN8 n => [0x2E, n]
  | .cpl => [0x2F]
  | .jrNcE8 e => [0x30, e]
  | .ldSpN16 n => [0x31, loByte n, hiByte n]
  | .ldAtHlDecA => [0x32]
  | .incSp => [0x33]
  | .incAtHl => [0x34]
  | .decAtHl => [0x35]
  | .ldAtHlN8 n => [0x36, n]
  | .scf => [0x37]
  | .jrCE8 e => [0x38, e]
  | .addHlSp => [0x39]
  | .ldAAtHlDec => [0x3A]
  | .decSp => [0x3B]
  | .incA => [0x3C]
  | .decA => [0x3D]
  | .ldAN8 n => [0x3E, n]
  | .ccf => [0x3F]
  | .ldBB => [0x40]
  | .ldBC => [0x41]
  | .ldBD => [0x42]
  | .ldBE => [0x43]
  | .ldBH => [0x44]
  | .ldBL => [0x45]
  | .ldBAtHl => [0x46]
  | .ldBA => [0x47]
  | .ldCB => [0x48]
  | .ldCC => [0x49]
  | .ldCD => [0x4A]
  | .ldCE => [0x4B]
  | .ldCH => [0x4C]
  | .ldCL => [0x4D]
  | .ldCAtHl => [0x4E]
  | .ldCA => [0x4F]
  | .ldDB => [0x50]
  | .ldDC => [0x51]
  | .ldDD => [0x52]
  | .ldDE => [0x53]
  | .ldDH => [0x54]
  | .ldDL => [0x55]
  | .ldDAtHl => [0x56]
  | .ldDA => [0x57]
  | .ldEB => [0x58]
  | .ldEC => [0x59]
  | .ldED => [0x5A]
  | .ldEE => [0x5B]
  | .ldEH => [0x5C]
  | .ldEL => [0x5D]
  | .ldEAtHl => [0x5E]
  | .ldEA => [0x5F]
  | .ldHB => [0x60]
  | .ldHC => [0x61]
  | .ldHD => [0x62]
  | .ldHE => [0x63]
  | .ldHH => [0x64]
  | .ldHL => [0x65]
  | .ldHAtHl => [0x66]
  | .ldHA => [0x67]
  | .ldLB => [0x68]
  | .ldLC => [0x69]
  | .ldLD => [0x6A]
  | .ldLE => [0x6B]
  | .ldLH => [0x6C]
  | .ldLL => [0x6D]
  | .ldLAtHl => [0x6E]
  | .ldLA => [0x6F]
  | .ldAtHlB => [0x70]
  | .ldAtHlC => [0x71]
  | .ldAtHlD => [0x72]
  | .ldAtHlE => [0x73]
  | .ldAtHlH => [0x74]
  | .ldAtHlL => [0x75]
  | .halt => [0x76]
  | .ldAtHlA => [0x77]
  | .ldAB => [0x78]
  | .ldAC => [0x79]
  | .ldAD => [0x7A]
  | .ldAE => [0x7B]
  | .ldAH => [0x7C]
  | .ldAL => [0x7D]
  | .ldAAtHl => [0x7E]
  | .ldAA => [0x7F]
  | .addAB => [0x80]
  | .addAC => [0x81]
  | .addAD => [0x82]
  | .addAE => [0x83]
  | .addAH => [0x84]
  | .addAL => [0x85]
  | .addAAtHl => [0x86]
  | .addAA => [0x87]
  | .adcAB => [0x88]
  | .adcAC => [0x89]
  | .adcAD => [0x8A]
  | .adcAE => [0x8B]
  | .adcAH => [0x8C]
  | .adcAL => [0x8D]
  | .adcAAtHl => [0x8E]
  | .adcAA => [0x8F]
  | .subB => [0x90]
  | .subC => [0x91]
  | .subD => [0x92]
  | .subE => [0x93]
  | .subH => [0x94]
  | .subL => [0x95]
  | .subAtHl => [0x96]
  | .subA => [0x97]
  | .sbcAB => [0x98]
  | .sbcAC => [0x99]
  | .sbcAD => [0x9A]
  | .sbcAE => [0x9B]
  | .sbcAH => [0x9C]
  | .sbcAL => [0x9D]
  | .sbcAAtHl => [0x9E]
  | .sbcAA => [0x9F]
  | .andB => [0xA0]
  | .andC => [0xA1]
  | .andD => [0xA2]
  | .andE => [0xA3]
  | .andH => [0xA4]
  | .andL => [0xA5]
  | .andAtHl => [0xA6]
  | .andA => [0xA7]
  | .xorB => [0xA8]
  | .xorC => [0xA9]
  | .xorD => [0xAA]
  | .xorE => [0xAB]
  | .xorH => [0xAC]
  | .xorL => [0xAD]
  | .xorAtHl => [0xAE]
  | .xorA => [0xAF]
  | .orB => [0xB0]
  | .orC => [0xB1]
  | .orD => [0xB2]
  | .orE => [0xB3]
  | .orH => [0xB4]
  | .orL => [0xB5]
  | .orAtHl => [0xB6]
  | .orA => [0xB7]
  | .cpB => [0xB8]
  | .cpC => [0xB9]
  | .cpD => [0xBA]
  | .cpE => [0xBB]
  | .cpH => [0xBC]
  | .cpL => [0xBD]
  | .cpAtHl => [0xBE]
  | .cpA => [0xBF]
  | .retNz => [0xC0]
  | .popBc => [0xC1]
  | .jpNzN16 n => [0xC2, loByte n, hiByte n]
  | .jpN16 n => [0xC3, loByte n, hiByte n]
  | .callNzN16 n => [0xC4, loByte n, hiByte n]
  | .pushBc => [0xC5]
  | .addAN8 n => [0xC6, n]
  | .rst00 => [0xC7]
  | .retZ => [0xC8]
  | .ret => [0xC9]
  | .jpZN16 n => [0xCA, loByte n, hiByte n]
  | .prefixCb => [0xCB]
  | .callZN16 n => [0xCC, loByte n, hiByte n]
  | .callN16 n => [0xCD, loByte n, hiByte n]
  | .adcAN8 n => [0xCE, n]
  | .rst08 => [0xCF]
  | .retNc => [0xD0]
  | .popDe => [0xD1]
  | .jpNcN16 n => [0xD2, loByte n, hiByte n]
  | .unusedD3 => [0xD3]
  | .callNcN16 n => [0xD4, loByte n, hiByte n]
  | .pushDe => [0xD5]
  | .subN8 n => [0xD6, n]
  | .rst10 => [0xD7]
  | .retC => [0xD8]
  | .reti => [0xD9]
  | .jpCN16 n => [0xDA, loByte n, hiByte n]
  | .unusedDb => [0xDB]
  | .callCN16 n => [0xDC, loByte n, hiByte n]
  | .unusedDd => [0xDD]
  | .sbcAN8 n => [0xDE, n]
  | .rst18 => [0xDF]
  | .ldhAtA8A a => [0xE0, a]
  | .popHl => [0xE1]
  | .ldAtCA => [0xE2]
  | .unusedE3 => [0xE3]
  | .unusedE4 => [0xE4]
  | .pushHl => [0xE5]
  | .andN8 n => [0xE6, n]
  | .rst20 => [0xE7]
  | .addSpE8 e => [0xE8, e]
  | .jpHl => [0xE9]
  | .ldAtN16A n => [0xEA, loByte n, hiByte n]
  | .unusedEb => [0xEB]
  | .unusedEc => [0xEC]
  | .unusedEd => [0xED]
  | .xorN8 n => [0xEE, n]
  | .rst28 => [0xEF]
  | .ldhAAtA8 a => [0xF0, a]
  | .popAf => [0xF1]
  | .ldAAtC => [0xF2]
  | .di => [0xF3]
  | .unusedF4 => [0xF4]
  | .pushAf => [0xF5]
  | .orN8 n => [0xF6, n]
  | .rst30 => [0xF7]
  | .ldHlSpE8 e => [0xF8, e]
  | .ldSpHl => [0xF9]
  | .ldAAtN16 n => [0xFA, loByte n, hiByte n]
  | .ei => [0xFB]
  | .unusedFc => [0xFC]
  | .unusedFd => [0xFD]
  | .cpN8 n => [0xFE, n]
  | .rst38 => [0xFF]
  | .rlcB => [0xCB, 0x00]
  | .rlcC => [0xCB, 0x01]
  | .rlcD => [0xCB, 0x02]
  | .rlcE => [0xCB, 0x03]
  | .rlcH => [0xCB, 0x04]
  | .rlcL => [0xCB, 0x05]
  | .rlcAtHl => [0xCB, 0x06]
  | .rlcA => [0xCB, 0x07]
  | .rrcB => [0xCB, 0x08]
  | .rrcC => [0xCB, 0x09]
  | .rrcD => [0xCB, 0x0A]
  | .rrcE => [0xCB, 0x0B]
  | .rrcH => [0xCB, 0x0C]
  | .rrcL => [0xCB, 0x0D]
  | .rrcAtHl => [0xCB, 0x0E]
  | .rrcA => [0xCB, 0x0F]
  | .rlB => [0xCB, 0x10]
  | .rlC => [0xCB, 0x11]
  | .rlD => [0xCB, 0x12]
  | .rlE => [0xCB, 0x13]
  | .rlH => [0xCB, 0x14]
  | .rlL => [0xCB, 0x15]
  | .rlAtHl => [0xCB, 0x16]
  | .rlA => [0xCB, 0x17]
  | .rrB => [0xCB, 0x18]
  | .rrC => [0xCB, 0x19]
  | .rrD => [0xCB, 0x1A]
  | .rrE => [0xCB, 0x1B]
  | .rrH => [0xCB, 0x1C]
  | .rrL => [0xCB, 0x1D]
  | .rrAtHl => [0xCB, 0x1E]
  | .rrA => [0xCB, 0x1F]
  | .slaB => [0xCB, 0x20]
  | .slaC => [0xCB, 0x21]
  | .slaD => [0xCB, 0x22]
  | .slaE => [0xCB, 0x23]
  | .slaH => [0xCB, 0x24]
  | .slaL => [0xCB, 0x25]
  | .slaAtHl => [0xCB, 0x26]
  | .slaA => [0xCB, 0x27]
  | .sraB => [0xCB, 0x28]
  | .sraC => [0xCB, 0x29]
  | .sraD => [0xCB, 0x2A]
  | .sraE => [0xCB, 0x2B]
  | .sraH => [0xCB, 0x2C]
  | .sraL => [0xCB, 0x2D]
  | .sraAtHl => [0xCB, 0x2E]
  | .sraA => [0xCB, 0x2F]
  | .swapB => [0xCB, 0x30]
  | .swapC => [0xCB, 0x31]
  | .swapD => [0xCB, 0x32]
  | .swapE => [0xCB, 0x33]
  | .swapH => [0xCB, 0x34]
  | .swapL => [0xCB, 0x35]
  | .swapAtHl => [0xCB, 0x36]
  | .swapA => [0xCB, 0x37]
  | .srlB => [0xCB, 0x38]
  | .srlC => [0xCB, 0x39]
  | .srlD => [0xCB, 0x3A]
  | .srlE => [0xCB, 0x3B]
  | .srlH => [0xCB, 0x3C]
  | .srlL => [0xCB, 0x3D]
  | .srlAtHl => [0xCB, 0x3E]
  | .srlA => [0xCB, 0x3F]
  | .bit0B => [0xCB, 0x40]
  | .bit0C => [0xCB, 0x41]
  | .bit0D => [0xCB, 0x42]
  | .bit0E => [0xCB, 0x43]
  | .bit0H => [0xCB, 0x44]
  | .bit0L => [0xCB, 0x45]
  | .bit0AtHl => [0xCB, 0x46]
  | .bit0A => [0xCB, 0x47]
  | .bit1B => [0xCB, 0x48]
  | .bit1C => [0xCB, 0x49]
  | .bit1D => [0xCB, 0x4A]
  | .bit1E => [0xCB, 0x4B]
  | .bit1H => [0xCB, 0x4C]
  | .bit1L => [0xCB, 0x4D]
  | .bit1AtHl => [0xCB, 0x4E]
  | .bit1A => [0xCB, 0x4F]
  | .bit2B => [0xCB, 0x50]
  | .bit2C => [0xCB, 0x51]
  | .bit2D => [0xCB, 0x52]
  | .bit2E => [0xCB, 0x53]
  | .bit2H => [0xCB, 0x54]
  | .bit2L => [0xCB, 0x55]
  | .bit2AtHl => [0xCB, 0x56]
  | .bit2A => [0xCB, 0x57]
  | .bit3B => [0xCB, 0x58]
  | .bit3C => [0xCB, 0x59]
  | .bit3D => [0xCB, 0x5A]
  | .bit3E => [0xCB, 0x5B]
  | .bit3H => [0xCB, 0x5C]
  | .bit3L => [0xCB, 0x5D]
  | .bit3AtHl => [0xCB, 0x5E]
  | .bit3A => [0xCB, 0x5F]
  | .bit4B => [0xCB, 0x60]
  | .bit4C => [0xCB, 0x61]
  | .bit4D => [0xCB, 0x62]
  | .bit4E => [0xCB, 0x63]
  | .bit4H => [0xCB, 0x64]
  | .bit4L => [0xCB, 0x65]
  | .bit4AtHl => [0xCB, 0x66]
  | .bit4A => [0xCB, 0x67]
  | .bit5B => [0xCB, 0x68]
  | .bit5C => [0xCB, 0x69]
  | .bit5D => [0xCB, 0x6A]
  | .bit5E => [0xCB, 0x6B]
  | .bit5H => [0xCB, 0x6C]
  | .bit5L => [0xCB, 0x6D]
  | .bit5AtHl => [0xCB, 0x6E]
  | .bit5A => [0xCB, 0x6F]
  | .bit6B => [0xCB, 0x70]
  | .bit6C => [0xCB, 0x71]
  | .bit6D => [0xCB, 0x72]
  | .bit6E => [0xCB, 0x73]
  | .bit6H => [0xCB, 0x74]
  | .bit6L => [0xCB, 0x75]
  | .bit6AtHl => [0xCB, 0x76]
  | .bit6A => [0xCB, 0x77]
  | .bit7B => [0xCB, 0x78]
  | .bit7C => [0xCB, 0x79]
  | .bit7D => [0xCB, 0x7A]
  | .bit7E => [0xCB, 0x7B]
  | .bit7H => [0xCB, 0x7C]
  | .bit7L => [0xCB, 0x7D]
  | .bit7AtHl => [0xCB, 0x7E]
  | .bit7A => [0xCB, 0x7F]
  | .res0B => [0xCB, 0x80]
  | .res0C => [0xCB, 0x81]
  | .res0D => [0xCB, 0x82]
  | .res0E => [0xCB, 0x83]
  | .res0H => [0xCB, 0x84]
  | .res0L => [0xCB, 0x85]
  | .res0AtHl => [0xCB, 0x86]
  | .res0A => [0xCB, 0x87]
  | .res1B => [0xCB, 0x88]
  | .res1C => [0xCB, 0x89]
  | .res1D => [0xCB, 0x8A]
  | .res1E => [0xCB, 0x8B]
  | .res1H => [0xCB, 0x8C]
  | .res1L => [0xCB, 0x8D]
  | .res1AtHl => [0xCB, 0x8E]
  | .res1A => [0xCB, 0x8F]
  | .res2B => [0xCB, 0x90]
  | .res2C => [0xCB, 0x91]
  | .res2D => [0xCB, 0x92]
  | .res2E => [0xCB, 0x93]
  | .res2H => [0xCB, 0x94]
  | .res2L => [0xCB, 0x95]
  | .res2AtHl => [0xCB, 0x96]
  | .res2A => [0xCB, 0x97]
  | .res3B => [0xCB, 0x98]
  | .res3C => [0xCB, 0x99]
  | .res3D => [0xCB, 0x9A]
  | .res3E => [0xCB, 0x9B]
  | .res3H => [0xCB, 0x9C]
  | .res3L => [0xCB, 0x9D]
  | .res3AtHl => [0xCB, 0x9E]
  | .res3A => [0xCB, 0x9F]
  | .res4B => [0xCB, 0xA0]
  | .res4C => [0xCB, 0xA1]
  | .res4D => [0xCB, 0xA2]
  | .res4E => [0xCB, 0xA3]
  | .res4H => [0xCB, 0xA4]
  | .res4L => [0xCB, 0xA5]
  | .res4AtHl => [0xCB, 0xA6]
  | .res4A => [0xCB, 0xA7]
  | .res5B => [0xCB, 0xA8]
  | .res5C => [0xCB, 0xA9]
  | .res5D => [0xCB, 0xAA]
  | .res5E => [0xCB, 0xAB]
  | .res5H => [0xCB, 0xAC]
  | .res5L => [0xCB, 0xAD]
  | .res5AtHl => [0xCB, 0xAE]
  | .res5A => [0xCB, 0xAF]
  | .res6B => [0xCB, 0xB0]
  | .res6C => [0xCB, 0xB1]
  | .res6D => [0xCB, 0xB2]
  | .res6E => [0xCB, 0xB3]
  | .res6H => [0xCB, 0xB4]
  | .res6L => [0xCB, 0xB5]
  | .res6AtHl => [0xCB, 0xB6]
  | .res6A => [0xCB, 0xB7]
  | .res7B => [0xCB, 0xB8]
  | .res7C => [0xCB, 0xB9]
  | .res7D => [0xCB, 0xBA]
  | .res7E => [0xCB, 0xBB]
  | .res7H => [0xCB, 0xBC]
  | .res7L => [0xCB, 0xBD]
  | .res7AtHl => [0xCB, 0xBE]
  | .res7A => [0xCB, 0xBF]
  | .set0B => [0xCB, 0xC0]
  | .set0C => [0xCB, 0xC1]
  | .set0D => [0xCB, 0xC2]
  | .set0E => [0xCB, 0xC3]
  | .set0H => [0xCB, 0xC4]
  | .set0L => [0xCB, 0xC5]
  | .set0AtHl => [0xCB, 0xC6]
  | .set0A => [0xCB, 0xC7]
  | .set1B => [0xCB, 0xC8]
  | .set1C => [0xCB, 0xC9]
  | .set1D => [0xCB, 0xCA]
  | .set1E => [0xCB, 0xCB]
  | .set1H => [0xCB, 0xCC]
  | .set1L => [0xCB, 0xCD]
  | .set1AtHl => [0xCB, 0xCE]
  | .set1A => [0xCB, 0xCF]
  | .set2B => [0xCB, 0xD0]
  | .set2C => [0xCB, 0xD1]
  | .set2D => [0xCB, 0xD2]
  | .set2E => [0xCB, 0xD3]
  | .set2H => [0xCB, 0xD4]
  | .set2L => [0xCB, 0xD5]
  | .set2AtHl => [0xCB, 0xD6]
  | .set2A => [0xCB, 0xD7]
  | .set3B => [0xCB, 0xD8]
  | .set3C => [0xCB, 0xD9]
  | .set3D => [0xCB, 0xDA]
  | .set3E => [0xCB, 0xDB]
  | .set3H => [0xCB, 0xDC]
  | .set3L => [0xCB, 0xDD]
  | .set3AtHl => [0xCB, 0xDE]
  | .set3A => [0xCB, 0xDF]
  | .set4B => [0xCB, 0xE0]
  | .set4C => [0xCB, 0xE1]
  | .set4D => [0xCB, 0xE2]
  | .set4E => [0xCB, 0xE3]
  | .set4H => [0xCB, 0xE4]
  | .set4L => [0xCB, 0xE5]
  | .set4AtHl => [0xCB, 0xE6]
  | .set4A => [0xCB, 0xE7]
  | .set5B => [0xCB, 0xE8]
  | .set5C => [0xCB, 0xE9]
  | .set5D => [0xCB, 0xEA]
  | .set5E => [0xCB, 0xEB]
  | .set5H => [0xCB, 0xEC]
  | .set5L => [0xCB, 0xED]
  | .set5AtHl => [0xCB, 0xEE]
  | .set5A => [0xCB, 0xEF]
  | .set6B => [0xCB, 0xF0]
  | .set6C => [0xCB, 0xF1]
  | .set6D => [0xCB, 0xF2]
  | .set6E => [0xCB, 0xF3]
  | .set6H => [0xCB, 0xF4]
  | .set6L => [0xCB, 0xF5]
  | .set6AtHl => [0xCB, 0xF6]
  | .set6A => [0xCB, 0xF7]
  | .set7B => [0xCB, 0xF8]
  | .set7C => [0xCB, 0xF9]
  | .set7D => [0xCB, 0xFA]
  | .set7E => [0xCB, 0xFB]
  | .set7H => [0xCB, 0xFC]
  | .set7L => [0xCB, 0xFD]
  | .set7AtHl => [0xCB, 0xFE]
  | .set7A => [0xCB, 0xFF]

/-! ## The table's numbering of words, for the host's questions -/

/-- The bytes of the `nbits` low bits of `w`, in address order. The table writes the word of an extended instruction as
`0xCB00 | op2` for the byte sequence `0xCB op2` (R168), so a 16-bit word with 0xCB in its high byte has its first byte
there; any other word has its first byte in its low bits. DESIGN CHOICE, safe (log entry 6). -/
def tableBytes (nbits w : Nat) : List Byte :=
  if nbits = 16 ∧ w / 256 % 256 = 0xCB then [prefixByte, BitVec.ofNat 8 w]
  else (List.range (max 1 (nbits / 8))).map (fun k => BitVec.ofNat 8 (w / 256 ^ k))

/-- Zeros for the operand bytes that the descriptor of the first byte asks for beyond the bytes given. -/
def withOperandZeros (bytes : List Byte) : List Byte :=
  match bytes with
  | [] => []
  | op :: rest => op :: rest ++ List.replicate ((stdSlot op).length - 1 - rest.length) 0

/-- The instruction that the decoder reads from the table's word `w` of `nbits` bits, the bits above being 0. -/
def decodeTableWord (nbits w : Nat) : Option Instr :=
  match decode (withOperandZeros (tableBytes nbits w)) with
  | .ok (i, _) => some i
  | .error _ => none

/-! ## Every opcode's decoding shown by its word -/

/-- The bare prefix byte (R395). -/
theorem decode_bare_prefix : decodeWhole [0xCB] = some .prefixCb := by decide

/-- Row `0x` of the printed map (R168), every word written out. -/
theorem decode_std_row_0 :
    ([[0x00], [0x01, 0x34, 0x12], [0x02], [0x03], [0x04], [0x05], [0x06, 0x34], [0x07], [0x08, 0x34, 0x12], [0x09], [0x0A], [0x0B], [0x0C], [0x0D], [0x0E, 0x34], [0x0F]] : List (List Byte)).map decodeWhole =
      [.nop, .ldBcN16 0x1234, .ldAtBcA, .incBc, .incB, .decB, .ldBN8 0x34, .rlca, .ldAtN16Sp 0x1234, .addHlBc, .ldAAtBc, .decBc, .incC, .decC, .ldCN8 0x34, .rrca].map some := by
  decide

/-- Row `1x` of the printed map (R168), every word written out. -/
theorem decode_std_row_1 :
    ([[0x10, 0x34], [0x11, 0x34, 0x12], [0x12], [0x13], [0x14], [0x15], [0x16, 0x34], [0x17], [0x18, 0x34], [0x19], [0x1A], [0x1B], [0x1C], [0x1D], [0x1E, 0x34], [0x1F]] : List (List Byte)).map decodeWhole =
      [.stop 0x34, .ldDeN16 0x1234, .ldAtDeA, .incDe, .incD, .decD, .ldDN8 0x34, .rla, .jrE8 0x34, .addHlDe, .ldAAtDe, .decDe, .incE, .decE, .ldEN8 0x34, .rra].map some := by
  decide

/-- Row `2x` of the printed map (R168), every word written out. -/
theorem decode_std_row_2 :
    ([[0x20, 0x34], [0x21, 0x34, 0x12], [0x22], [0x23], [0x24], [0x25], [0x26, 0x34], [0x27], [0x28, 0x34], [0x29], [0x2A], [0x2B], [0x2C], [0x2D], [0x2E, 0x34], [0x2F]] : List (List Byte)).map decodeWhole =
      [.jrNzE8 0x34, .ldHlN16 0x1234, .ldAtHlIncA, .incHl, .incH, .decH, .ldHN8 0x34, .daa, .jrZE8 0x34, .addHlHl, .ldAAtHlInc, .decHl, .incL, .decL, .ldLN8 0x34, .cpl].map some := by
  decide

/-- Row `3x` of the printed map (R168), every word written out. -/
theorem decode_std_row_3 :
    ([[0x30, 0x34], [0x31, 0x34, 0x12], [0x32], [0x33], [0x34], [0x35], [0x36, 0x34], [0x37], [0x38, 0x34], [0x39], [0x3A], [0x3B], [0x3C], [0x3D], [0x3E, 0x34], [0x3F]] : List (List Byte)).map decodeWhole =
      [.jrNcE8 0x34, .ldSpN16 0x1234, .ldAtHlDecA, .incSp, .incAtHl, .decAtHl, .ldAtHlN8 0x34, .scf, .jrCE8 0x34, .addHlSp, .ldAAtHlDec, .decSp, .incA, .decA, .ldAN8 0x34, .ccf].map some := by
  decide

/-- Row `4x` of the printed map (R168), every word written out. -/
theorem decode_std_row_4 :
    ([[0x40], [0x41], [0x42], [0x43], [0x44], [0x45], [0x46], [0x47], [0x48], [0x49], [0x4A], [0x4B], [0x4C], [0x4D], [0x4E], [0x4F]] : List (List Byte)).map decodeWhole =
      [.ldBB, .ldBC, .ldBD, .ldBE, .ldBH, .ldBL, .ldBAtHl, .ldBA, .ldCB, .ldCC, .ldCD, .ldCE, .ldCH, .ldCL, .ldCAtHl, .ldCA].map some := by
  decide

/-- Row `5x` of the printed map (R168), every word written out. -/
theorem decode_std_row_5 :
    ([[0x50], [0x51], [0x52], [0x53], [0x54], [0x55], [0x56], [0x57], [0x58], [0x59], [0x5A], [0x5B], [0x5C], [0x5D], [0x5E], [0x5F]] : List (List Byte)).map decodeWhole =
      [.ldDB, .ldDC, .ldDD, .ldDE, .ldDH, .ldDL, .ldDAtHl, .ldDA, .ldEB, .ldEC, .ldED, .ldEE, .ldEH, .ldEL, .ldEAtHl, .ldEA].map some := by
  decide

/-- Row `6x` of the printed map (R168), every word written out. -/
theorem decode_std_row_6 :
    ([[0x60], [0x61], [0x62], [0x63], [0x64], [0x65], [0x66], [0x67], [0x68], [0x69], [0x6A], [0x6B], [0x6C], [0x6D], [0x6E], [0x6F]] : List (List Byte)).map decodeWhole =
      [.ldHB, .ldHC, .ldHD, .ldHE, .ldHH, .ldHL, .ldHAtHl, .ldHA, .ldLB, .ldLC, .ldLD, .ldLE, .ldLH, .ldLL, .ldLAtHl, .ldLA].map some := by
  decide

/-- Row `7x` of the printed map (R168), every word written out. -/
theorem decode_std_row_7 :
    ([[0x70], [0x71], [0x72], [0x73], [0x74], [0x75], [0x76], [0x77], [0x78], [0x79], [0x7A], [0x7B], [0x7C], [0x7D], [0x7E], [0x7F]] : List (List Byte)).map decodeWhole =
      [.ldAtHlB, .ldAtHlC, .ldAtHlD, .ldAtHlE, .ldAtHlH, .ldAtHlL, .halt, .ldAtHlA, .ldAB, .ldAC, .ldAD, .ldAE, .ldAH, .ldAL, .ldAAtHl, .ldAA].map some := by
  decide

/-- Row `8x` of the printed map (R168), every word written out. -/
theorem decode_std_row_8 :
    ([[0x80], [0x81], [0x82], [0x83], [0x84], [0x85], [0x86], [0x87], [0x88], [0x89], [0x8A], [0x8B], [0x8C], [0x8D], [0x8E], [0x8F]] : List (List Byte)).map decodeWhole =
      [.addAB, .addAC, .addAD, .addAE, .addAH, .addAL, .addAAtHl, .addAA, .adcAB, .adcAC, .adcAD, .adcAE, .adcAH, .adcAL, .adcAAtHl, .adcAA].map some := by
  decide

/-- Row `9x` of the printed map (R168), every word written out. -/
theorem decode_std_row_9 :
    ([[0x90], [0x91], [0x92], [0x93], [0x94], [0x95], [0x96], [0x97], [0x98], [0x99], [0x9A], [0x9B], [0x9C], [0x9D], [0x9E], [0x9F]] : List (List Byte)).map decodeWhole =
      [.subB, .subC, .subD, .subE, .subH, .subL, .subAtHl, .subA, .sbcAB, .sbcAC, .sbcAD, .sbcAE, .sbcAH, .sbcAL, .sbcAAtHl, .sbcAA].map some := by
  decide

/-- Row `Ax` of the printed map (R168), every word written out. -/
theorem decode_std_row_a :
    ([[0xA0], [0xA1], [0xA2], [0xA3], [0xA4], [0xA5], [0xA6], [0xA7], [0xA8], [0xA9], [0xAA], [0xAB], [0xAC], [0xAD], [0xAE], [0xAF]] : List (List Byte)).map decodeWhole =
      [.andB, .andC, .andD, .andE, .andH, .andL, .andAtHl, .andA, .xorB, .xorC, .xorD, .xorE, .xorH, .xorL, .xorAtHl, .xorA].map some := by
  decide

/-- Row `Bx` of the printed map (R168), every word written out. -/
theorem decode_std_row_b :
    ([[0xB0], [0xB1], [0xB2], [0xB3], [0xB4], [0xB5], [0xB6], [0xB7], [0xB8], [0xB9], [0xBA], [0xBB], [0xBC], [0xBD], [0xBE], [0xBF]] : List (List Byte)).map decodeWhole =
      [.orB, .orC, .orD, .orE, .orH, .orL, .orAtHl, .orA, .cpB, .cpC, .cpD, .cpE, .cpH, .cpL, .cpAtHl, .cpA].map some := by
  decide

/-- Row `Cx` of the printed map (R168), every word written out. -/
theorem decode_std_row_c :
    ([[0xC0], [0xC1], [0xC2, 0x34, 0x12], [0xC3, 0x34, 0x12], [0xC4, 0x34, 0x12], [0xC5], [0xC6, 0x34], [0xC7], [0xC8], [0xC9], [0xCA, 0x34, 0x12], [0xCC, 0x34, 0x12], [0xCD, 0x34, 0x12], [0xCE, 0x34], [0xCF]] : List (List Byte)).map decodeWhole =
      [.retNz, .popBc, .jpNzN16 0x1234, .jpN16 0x1234, .callNzN16 0x1234, .pushBc, .addAN8 0x34, .rst00, .retZ, .ret, .jpZN16 0x1234, .callZN16 0x1234, .callN16 0x1234, .adcAN8 0x34, .rst08].map some := by
  decide

/-- Row `Dx` of the printed map (R168), every word written out. -/
theorem decode_std_row_d :
    ([[0xD0], [0xD1], [0xD2, 0x34, 0x12], [0xD3], [0xD4, 0x34, 0x12], [0xD5], [0xD6, 0x34], [0xD7], [0xD8], [0xD9], [0xDA, 0x34, 0x12], [0xDB], [0xDC, 0x34, 0x12], [0xDD], [0xDE, 0x34], [0xDF]] : List (List Byte)).map decodeWhole =
      [.retNc, .popDe, .jpNcN16 0x1234, .unusedD3, .callNcN16 0x1234, .pushDe, .subN8 0x34, .rst10, .retC, .reti, .jpCN16 0x1234, .unusedDb, .callCN16 0x1234, .unusedDd, .sbcAN8 0x34, .rst18].map some := by
  decide

/-- Row `Ex` of the printed map (R168), every word written out. -/
theorem decode_std_row_e :
    ([[0xE0, 0x34], [0xE1], [0xE2], [0xE3], [0xE4], [0xE5], [0xE6, 0x34], [0xE7], [0xE8, 0x34], [0xE9], [0xEA, 0x34, 0x12], [0xEB], [0xEC], [0xED], [0xEE, 0x34], [0xEF]] : List (List Byte)).map decodeWhole =
      [.ldhAtA8A 0x34, .popHl, .ldAtCA, .unusedE3, .unusedE4, .pushHl, .andN8 0x34, .rst20, .addSpE8 0x34, .jpHl, .ldAtN16A 0x1234, .unusedEb, .unusedEc, .unusedEd, .xorN8 0x34, .rst28].map some := by
  decide

/-- Row `Fx` of the printed map (R168), every word written out. -/
theorem decode_std_row_f :
    ([[0xF0, 0x34], [0xF1], [0xF2], [0xF3], [0xF4], [0xF5], [0xF6, 0x34], [0xF7], [0xF8, 0x34], [0xF9], [0xFA, 0x34, 0x12], [0xFB], [0xFC], [0xFD], [0xFE, 0x34], [0xFF]] : List (List Byte)).map decodeWhole =
      [.ldhAAtA8 0x34, .popAf, .ldAAtC, .di, .unusedF4, .pushAf, .orN8 0x34, .rst30, .ldHlSpE8 0x34, .ldSpHl, .ldAAtN16 0x1234, .ei, .unusedFc, .unusedFd, .cpN8 0x34, .rst38].map some := by
  decide

/-- Row `CB 0x` of the printed map (R168), every word written out. -/
theorem decode_cb_row_0 :
    ([[0xCB, 0x00], [0xCB, 0x01], [0xCB, 0x02], [0xCB, 0x03], [0xCB, 0x04], [0xCB, 0x05], [0xCB, 0x06], [0xCB, 0x07], [0xCB, 0x08], [0xCB, 0x09], [0xCB, 0x0A], [0xCB, 0x0B], [0xCB, 0x0C], [0xCB, 0x0D], [0xCB, 0x0E], [0xCB, 0x0F]] : List (List Byte)).map decodeWhole =
      [.rlcB, .rlcC, .rlcD, .rlcE, .rlcH, .rlcL, .rlcAtHl, .rlcA, .rrcB, .rrcC, .rrcD, .rrcE, .rrcH, .rrcL, .rrcAtHl, .rrcA].map some := by
  decide

/-- Row `CB 1x` of the printed map (R168), every word written out. -/
theorem decode_cb_row_1 :
    ([[0xCB, 0x10], [0xCB, 0x11], [0xCB, 0x12], [0xCB, 0x13], [0xCB, 0x14], [0xCB, 0x15], [0xCB, 0x16], [0xCB, 0x17], [0xCB, 0x18], [0xCB, 0x19], [0xCB, 0x1A], [0xCB, 0x1B], [0xCB, 0x1C], [0xCB, 0x1D], [0xCB, 0x1E], [0xCB, 0x1F]] : List (List Byte)).map decodeWhole =
      [.rlB, .rlC, .rlD, .rlE, .rlH, .rlL, .rlAtHl, .rlA, .rrB, .rrC, .rrD, .rrE, .rrH, .rrL, .rrAtHl, .rrA].map some := by
  decide

/-- Row `CB 2x` of the printed map (R168), every word written out. -/
theorem decode_cb_row_2 :
    ([[0xCB, 0x20], [0xCB, 0x21], [0xCB, 0x22], [0xCB, 0x23], [0xCB, 0x24], [0xCB, 0x25], [0xCB, 0x26], [0xCB, 0x27], [0xCB, 0x28], [0xCB, 0x29], [0xCB, 0x2A], [0xCB, 0x2B], [0xCB, 0x2C], [0xCB, 0x2D], [0xCB, 0x2E], [0xCB, 0x2F]] : List (List Byte)).map decodeWhole =
      [.slaB, .slaC, .slaD, .slaE, .slaH, .slaL, .slaAtHl, .slaA, .sraB, .sraC, .sraD, .sraE, .sraH, .sraL, .sraAtHl, .sraA].map some := by
  decide

/-- Row `CB 3x` of the printed map (R168), every word written out. -/
theorem decode_cb_row_3 :
    ([[0xCB, 0x30], [0xCB, 0x31], [0xCB, 0x32], [0xCB, 0x33], [0xCB, 0x34], [0xCB, 0x35], [0xCB, 0x36], [0xCB, 0x37], [0xCB, 0x38], [0xCB, 0x39], [0xCB, 0x3A], [0xCB, 0x3B], [0xCB, 0x3C], [0xCB, 0x3D], [0xCB, 0x3E], [0xCB, 0x3F]] : List (List Byte)).map decodeWhole =
      [.swapB, .swapC, .swapD, .swapE, .swapH, .swapL, .swapAtHl, .swapA, .srlB, .srlC, .srlD, .srlE, .srlH, .srlL, .srlAtHl, .srlA].map some := by
  decide

/-- Row `CB 4x` of the printed map (R168), every word written out. -/
theorem decode_cb_row_4 :
    ([[0xCB, 0x40], [0xCB, 0x41], [0xCB, 0x42], [0xCB, 0x43], [0xCB, 0x44], [0xCB, 0x45], [0xCB, 0x46], [0xCB, 0x47], [0xCB, 0x48], [0xCB, 0x49], [0xCB, 0x4A], [0xCB, 0x4B], [0xCB, 0x4C], [0xCB, 0x4D], [0xCB, 0x4E], [0xCB, 0x4F]] : List (List Byte)).map decodeWhole =
      [.bit0B, .bit0C, .bit0D, .bit0E, .bit0H, .bit0L, .bit0AtHl, .bit0A, .bit1B, .bit1C, .bit1D, .bit1E, .bit1H, .bit1L, .bit1AtHl, .bit1A].map some := by
  decide

/-- Row `CB 5x` of the printed map (R168), every word written out. -/
theorem decode_cb_row_5 :
    ([[0xCB, 0x50], [0xCB, 0x51], [0xCB, 0x52], [0xCB, 0x53], [0xCB, 0x54], [0xCB, 0x55], [0xCB, 0x56], [0xCB, 0x57], [0xCB, 0x58], [0xCB, 0x59], [0xCB, 0x5A], [0xCB, 0x5B], [0xCB, 0x5C], [0xCB, 0x5D], [0xCB, 0x5E], [0xCB, 0x5F]] : List (List Byte)).map decodeWhole =
      [.bit2B, .bit2C, .bit2D, .bit2E, .bit2H, .bit2L, .bit2AtHl, .bit2A, .bit3B, .bit3C, .bit3D, .bit3E, .bit3H, .bit3L, .bit3AtHl, .bit3A].map some := by
  decide

/-- Row `CB 6x` of the printed map (R168), every word written out. -/
theorem decode_cb_row_6 :
    ([[0xCB, 0x60], [0xCB, 0x61], [0xCB, 0x62], [0xCB, 0x63], [0xCB, 0x64], [0xCB, 0x65], [0xCB, 0x66], [0xCB, 0x67], [0xCB, 0x68], [0xCB, 0x69], [0xCB, 0x6A], [0xCB, 0x6B], [0xCB, 0x6C], [0xCB, 0x6D], [0xCB, 0x6E], [0xCB, 0x6F]] : List (List Byte)).map decodeWhole =
      [.bit4B, .bit4C, .bit4D, .bit4E, .bit4H, .bit4L, .bit4AtHl, .bit4A, .bit5B, .bit5C, .bit5D, .bit5E, .bit5H, .bit5L, .bit5AtHl, .bit5A].map some := by
  decide

/-- Row `CB 7x` of the printed map (R168), every word written out. -/
theorem decode_cb_row_7 :
    ([[0xCB, 0x70], [0xCB, 0x71], [0xCB, 0x72], [0xCB, 0x73], [0xCB, 0x74], [0xCB, 0x75], [0xCB, 0x76], [0xCB, 0x77], [0xCB, 0x78], [0xCB, 0x79], [0xCB, 0x7A], [0xCB, 0x7B], [0xCB, 0x7C], [0xCB, 0x7D], [0xCB, 0x7E], [0xCB, 0x7F]] : List (List Byte)).map decodeWhole =
      [.bit6B, .bit6C, .bit6D, .bit6E, .bit6H, .bit6L, .bit6AtHl, .bit6A, .bit7B, .bit7C, .bit7D, .bit7E, .bit7H, .bit7L, .bit7AtHl, .bit7A].map some := by
  decide

/-- Row `CB 8x` of the printed map (R168), every word written out. -/
theorem decode_cb_row_8 :
    ([[0xCB, 0x80], [0xCB, 0x81], [0xCB, 0x82], [0xCB, 0x83], [0xCB, 0x84], [0xCB, 0x85], [0xCB, 0x86], [0xCB, 0x87], [0xCB, 0x88], [0xCB, 0x89], [0xCB, 0x8A], [0xCB, 0x8B], [0xCB, 0x8C], [0xCB, 0x8D], [0xCB, 0x8E], [0xCB, 0x8F]] : List (List Byte)).map decodeWhole =
      [.res0B, .res0C, .res0D, .res0E, .res0H, .res0L, .res0AtHl, .res0A, .res1B, .res1C, .res1D, .res1E, .res1H, .res1L, .res1AtHl, .res1A].map some := by
  decide

/-- Row `CB 9x` of the printed map (R168), every word written out. -/
theorem decode_cb_row_9 :
    ([[0xCB, 0x90], [0xCB, 0x91], [0xCB, 0x92], [0xCB, 0x93], [0xCB, 0x94], [0xCB, 0x95], [0xCB, 0x96], [0xCB, 0x97], [0xCB, 0x98], [0xCB, 0x99], [0xCB, 0x9A], [0xCB, 0x9B], [0xCB, 0x9C], [0xCB, 0x9D], [0xCB, 0x9E], [0xCB, 0x9F]] : List (List Byte)).map decodeWhole =
      [.res2B, .res2C, .res2D, .res2E, .res2H, .res2L, .res2AtHl, .res2A, .res3B, .res3C, .res3D, .res3E, .res3H, .res3L, .res3AtHl, .res3A].map some := by
  decide

/-- Row `CB Ax` of the printed map (R168), every word written out. -/
theorem decode_cb_row_a :
    ([[0xCB, 0xA0], [0xCB, 0xA1], [0xCB, 0xA2], [0xCB, 0xA3], [0xCB, 0xA4], [0xCB, 0xA5], [0xCB, 0xA6], [0xCB, 0xA7], [0xCB, 0xA8], [0xCB, 0xA9], [0xCB, 0xAA], [0xCB, 0xAB], [0xCB, 0xAC], [0xCB, 0xAD], [0xCB, 0xAE], [0xCB, 0xAF]] : List (List Byte)).map decodeWhole =
      [.res4B, .res4C, .res4D, .res4E, .res4H, .res4L, .res4AtHl, .res4A, .res5B, .res5C, .res5D, .res5E, .res5H, .res5L, .res5AtHl, .res5A].map some := by
  decide

/-- Row `CB Bx` of the printed map (R168), every word written out. -/
theorem decode_cb_row_b :
    ([[0xCB, 0xB0], [0xCB, 0xB1], [0xCB, 0xB2], [0xCB, 0xB3], [0xCB, 0xB4], [0xCB, 0xB5], [0xCB, 0xB6], [0xCB, 0xB7], [0xCB, 0xB8], [0xCB, 0xB9], [0xCB, 0xBA], [0xCB, 0xBB], [0xCB, 0xBC], [0xCB, 0xBD], [0xCB, 0xBE], [0xCB, 0xBF]] : List (List Byte)).map decodeWhole =
      [.res6B, .res6C, .res6D, .res6E, .res6H, .res6L, .res6AtHl, .res6A, .res7B, .res7C, .res7D, .res7E, .res7H, .res7L, .res7AtHl, .res7A].map some := by
  decide

/-- Row `CB Cx` of the printed map (R168), every word written out. -/
theorem decode_cb_row_c :
    ([[0xCB, 0xC0], [0xCB, 0xC1], [0xCB, 0xC2], [0xCB, 0xC3], [0xCB, 0xC4], [0xCB, 0xC5], [0xCB, 0xC6], [0xCB, 0xC7], [0xCB, 0xC8], [0xCB, 0xC9], [0xCB, 0xCA], [0xCB, 0xCB], [0xCB, 0xCC], [0xCB, 0xCD], [0xCB, 0xCE], [0xCB, 0xCF]] : List (List Byte)).map decodeWhole =
      [.set0B, .set0C, .set0D, .set0E, .set0H, .set0L, .set0AtHl, .set0A, .set1B, .set1C, .set1D, .set1E, .set1H, .set1L, .set1AtHl, .set1A].map some := by
  decide

/-- Row `CB Dx` of the printed map (R168), every word written out. -/
theorem decode_cb_row_d :
    ([[0xCB, 0xD0], [0xCB, 0xD1], [0xCB, 0xD2], [0xCB, 0xD3], [0xCB, 0xD4], [0xCB, 0xD5], [0xCB, 0xD6], [0xCB, 0xD7], [0xCB, 0xD8], [0xCB, 0xD9], [0xCB, 0xDA], [0xCB, 0xDB], [0xCB, 0xDC], [0xCB, 0xDD], [0xCB, 0xDE], [0xCB, 0xDF]] : List (List Byte)).map decodeWhole =
      [.set2B, .set2C, .set2D, .set2E, .set2H, .set2L, .set2AtHl, .set2A, .set3B, .set3C, .set3D, .set3E, .set3H, .set3L, .set3AtHl, .set3A].map some := by
  decide

/-- Row `CB Ex` of the printed map (R168), every word written out. -/
theorem decode_cb_row_e :
    ([[0xCB, 0xE0], [0xCB, 0xE1], [0xCB, 0xE2], [0xCB, 0xE3], [0xCB, 0xE4], [0xCB, 0xE5], [0xCB, 0xE6], [0xCB, 0xE7], [0xCB, 0xE8], [0xCB, 0xE9], [0xCB, 0xEA], [0xCB, 0xEB], [0xCB, 0xEC], [0xCB, 0xED], [0xCB, 0xEE], [0xCB, 0xEF]] : List (List Byte)).map decodeWhole =
      [.set4B, .set4C, .set4D, .set4E, .set4H, .set4L, .set4AtHl, .set4A, .set5B, .set5C, .set5D, .set5E, .set5H, .set5L, .set5AtHl, .set5A].map some := by
  decide

/-- Row `CB Fx` of the printed map (R168), every word written out. -/
theorem decode_cb_row_f :
    ([[0xCB, 0xF0], [0xCB, 0xF1], [0xCB, 0xF2], [0xCB, 0xF3], [0xCB, 0xF4], [0xCB, 0xF5], [0xCB, 0xF6], [0xCB, 0xF7], [0xCB, 0xF8], [0xCB, 0xF9], [0xCB, 0xFA], [0xCB, 0xFB], [0xCB, 0xFC], [0xCB, 0xFD], [0xCB, 0xFE], [0xCB, 0xFF]] : List (List Byte)).map decodeWhole =
      [.set6B, .set6C, .set6D, .set6E, .set6H, .set6L, .set6AtHl, .set6A, .set7B, .set7C, .set7D, .set7E, .set7H, .set7L, .set7AtHl, .set7A].map some := by
  decide

end Sys2Proof
end

