-- ==== Sys2Proof/Machine/Alu8.lean ====
section
/-! DEFINITION. 8-bit arithmetic and logic (R260–R294). -/

namespace Sys2Proof.Machine

/-! ## The shared operations -/

/-- A and the four flags written together. -/
def State.setAccumulator (s : State) (r : Byte × Flags) : State := ({ s with a := r.1 }).setFlags r.2

/-- An ALU operation of A with a value that has been read (R263–R286). -/
def aluValue (op : AluOp) (v : Byte) (s : State) : State := s.setAccumulator (aluFlags op s.a v s.flags.c)

/-- An ALU operation of A with a register or the byte at HL (R263–R285). -/
def aluOperand (op : AluOp) (o : Operand8) (s : State) : State := aluValue op (s.operand8 o) s

/-- `INC r`, `INC (HL)`: flags from the value read, then the write (R287, R288). -/
def incOperand (o : Operand8) (s : State) : State :=
  let r := incFlags (s.operand8 o) s.flags
  (s.setFlags r.2).setOperand8 o r.1

/-- `DEC r`, `DEC (HL)`: flags from the value read, then the write (R289, R290). -/
def decOperand (o : Operand8) (s : State) : State :=
  let r := decFlags (s.operand8 o) s.flags
  (s.setFlags r.2).setOperand8 o r.1

/-- `DAA` (R291). -/
def decimalAdjust (s : State) : State := s.setAccumulator (daaFlags s.a s.flags)

/-- `CPL` (R292). -/
def complementA (s : State) : State := ({ s with a := ~~~s.a }).setFlags { s.flags with n := true, h := true }

/-- `SCF` (R293). -/
def setCarry (s : State) : State := s.setFlags { s.flags with n := false, h := false, c := true }

/-- `CCF` (R294). -/
def complementCarry (s : State) : State := s.setFlags { s.flags with n := false, h := false, c := !s.flags.c }

/-! ## The instructions -/

/-- `INC B` (R287). -/
def execIncB (s : State) : Result := complete 4 (incOperand (.reg .b) s)
/-- `DEC B` (R289). -/
def execDecB (s : State) : Result := complete 4 (decOperand (.reg .b) s)
/-- `INC C` (R287). -/
def execIncC (s : State) : Result := complete 4 (incOperand (.reg .c) s)
/-- `DEC C` (R289). -/
def execDecC (s : State) : Result := complete 4 (decOperand (.reg .c) s)
/-- `INC D` (R287). -/
def execIncD (s : State) : Result := complete 4 (incOperand (.reg .d) s)
/-- `DEC D` (R289). -/
def execDecD (s : State) : Result := complete 4 (decOperand (.reg .d) s)
/-- `INC E` (R287). -/
def execIncE (s : State) : Result := complete 4 (incOperand (.reg .e) s)
/-- `DEC E` (R289). -/
def execDecE (s : State) : Result := complete 4 (decOperand (.reg .e) s)
/-- `INC H` (R287). -/
def execIncH (s : State) : Result := complete 4 (incOperand (.reg .h) s)
/-- `DEC H` (R289). -/
def execDecH (s : State) : Result := complete 4 (decOperand (.reg .h) s)
/-- `DAA` (R291). -/
def execDaa (s : State) : Result := complete 4 (decimalAdjust s)
/-- `INC L` (R287). -/
def execIncL (s : State) : Result := complete 4 (incOperand (.reg .l) s)
/-- `DEC L` (R289). -/
def execDecL (s : State) : Result := complete 4 (decOperand (.reg .l) s)
/-- `CPL` (R292). -/
def execCpl (s : State) : Result := complete 4 (complementA s)
/-- `INC (HL)` (R288). -/
def execIncAtHl (s : State) : Result := complete 12 (incOperand .atHl s)
/-- `DEC (HL)` (R290). -/
def execDecAtHl (s : State) : Result := complete 12 (decOperand .atHl s)
/-- `SCF` (R293). -/
def execScf (s : State) : Result := complete 4 (setCarry s)
/-- `INC A` (R287). -/
def execIncA (s : State) : Result := complete 4 (incOperand (.reg .a) s)
/-- `DEC A` (R289). -/
def execDecA (s : State) : Result := complete 4 (decOperand (.reg .a) s)
/-- `CCF` (R294). -/
def execCcf (s : State) : Result := complete 4 (complementCarry s)
/-- `ADD A,B` (R263). -/
def execAddAB (s : State) : Result := complete 4 (aluOperand .add (.reg .b) s)
/-- `ADD A,C` (R263). -/
def execAddAC (s : State) : Result := complete 4 (aluOperand .add (.reg .c) s)
/-- `ADD A,D` (R263). -/
def execAddAD (s : State) : Result := complete 4 (aluOperand .add (.reg .d) s)
/-- `ADD A,E` (R263). -/
def execAddAE (s : State) : Result := complete 4 (aluOperand .add (.reg .e) s)
/-- `ADD A,H` (R263). -/
def execAddAH (s : State) : Result := complete 4 (aluOperand .add (.reg .h) s)
/-- `ADD A,L` (R263). -/
def execAddAL (s : State) : Result := complete 4 (aluOperand .add (.reg .l) s)
/-- `ADD A,(HL)` (R264). -/
def execAddAAtHl (s : State) : Result := complete 8 (aluOperand .add .atHl s)
/-- `ADD A,A` (R263). -/
def execAddAA (s : State) : Result := complete 4 (aluOperand .add (.reg .a) s)
/-- `ADC A,B` (R266). -/
def execAdcAB (s : State) : Result := complete 4 (aluOperand .adc (.reg .b) s)
/-- `ADC A,C` (R266). -/
def execAdcAC (s : State) : Result := complete 4 (aluOperand .adc (.reg .c) s)
/-- `ADC A,D` (R266). -/
def execAdcAD (s : State) : Result := complete 4 (aluOperand .adc (.reg .d) s)
/-- `ADC A,E` (R266). -/
def execAdcAE (s : State) : Result := complete 4 (aluOperand .adc (.reg .e) s)
/-- `ADC A,H` (R266). -/
def execAdcAH (s : State) : Result := complete 4 (aluOperand .adc (.reg .h) s)
/-- `ADC A,L` (R266). -/
def execAdcAL (s : State) : Result := complete 4 (aluOperand .adc (.reg .l) s)
/-- `ADC A,(HL)` (R267). -/
def execAdcAAtHl (s : State) : Result := complete 8 (aluOperand .adc .atHl s)
/-- `ADC A,A` (R266). -/
def execAdcAA (s : State) : Result := complete 4 (aluOperand .adc (.reg .a) s)
/-- `SUB B` (R269). -/
def execSubB (s : State) : Result := complete 4 (aluOperand .sub (.reg .b) s)
/-- `SUB C` (R269). -/
def execSubC (s : State) : Result := complete 4 (aluOperand .sub (.reg .c) s)
/-- `SUB D` (R269). -/
def execSubD (s : State) : Result := complete 4 (aluOperand .sub (.reg .d) s)
/-- `SUB E` (R269). -/
def execSubE (s : State) : Result := complete 4 (aluOperand .sub (.reg .e) s)
/-- `SUB H` (R269). -/
def execSubH (s : State) : Result := complete 4 (aluOperand .sub (.reg .h) s)
/-- `SUB L` (R269). -/
def execSubL (s : State) : Result := complete 4 (aluOperand .sub (.reg .l) s)
/-- `SUB (HL)` (R270). -/
def execSubAtHl (s : State) : Result := complete 8 (aluOperand .sub .atHl s)
/-- `SUB A` (R269). -/
def execSubA (s : State) : Result := complete 4 (aluOperand .sub (.reg .a) s)
/-- `SBC A,B` (R272). -/
def execSbcAB (s : State) : Result := complete 4 (aluOperand .sbc (.reg .b) s)
/-- `SBC A,C` (R272). -/
def execSbcAC (s : State) : Result := complete 4 (aluOperand .sbc (.reg .c) s)
/-- `SBC A,D` (R272). -/
def execSbcAD (s : State) : Result := complete 4 (aluOperand .sbc (.reg .d) s)
/-- `SBC A,E` (R272). -/
def execSbcAE (s : State) : Result := complete 4 (aluOperand .sbc (.reg .e) s)
/-- `SBC A,H` (R272). -/
def execSbcAH (s : State) : Result := complete 4 (aluOperand .sbc (.reg .h) s)
/-- `SBC A,L` (R272). -/
def execSbcAL (s : State) : Result := complete 4 (aluOperand .sbc (.reg .l) s)
/-- `SBC A,(HL)` (R273). -/
def execSbcAAtHl (s : State) : Result := complete 8 (aluOperand .sbc .atHl s)
/-- `SBC A,A` (R272). -/
def execSbcAA (s : State) : Result := complete 4 (aluOperand .sbc (.reg .a) s)
/-- `AND B` (R275). -/
def execAndB (s : State) : Result := complete 4 (aluOperand .and (.reg .b) s)
/-- `AND C` (R275). -/
def execAndC (s : State) : Result := complete 4 (aluOperand .and (.reg .c) s)
/-- `AND D` (R275). -/
def execAndD (s : State) : Result := complete 4 (aluOperand .and (.reg .d) s)
/-- `AND E` (R275). -/
def execAndE (s : State) : Result := complete 4 (aluOperand .and (.reg .e) s)
/-- `AND H` (R275). -/
def execAndH (s : State) : Result := complete 4 (aluOperand .and (.reg .h) s)
/-- `AND L` (R275). -/
def execAndL (s : State) : Result := complete 4 (aluOperand .and (.reg .l) s)
/-- `AND (HL)` (R276). -/
def execAndAtHl (s : State) : Result := complete 8 (aluOperand .and .atHl s)
/-- `AND A` (R275). -/
def execAndA (s : State) : Result := complete 4 (aluOperand .and (.reg .a) s)
/-- `XOR B` (R278). -/
def execXorB (s : State) : Result := complete 4 (aluOperand .xor (.reg .b) s)
/-- `XOR C` (R278). -/
def execXorC (s : State) : Result := complete 4 (aluOperand .xor (.reg .c) s)
/-- `XOR D` (R278). -/
def execXorD (s : State) : Result := complete 4 (aluOperand .xor (.reg .d) s)
/-- `XOR E` (R278). -/
def execXorE (s : State) : Result := complete 4 (aluOperand .xor (.reg .e) s)
/-- `XOR H` (R278). -/
def execXorH (s : State) : Result := complete 4 (aluOperand .xor (.reg .h) s)
/-- `XOR L` (R278). -/
def execXorL (s : State) : Result := complete 4 (aluOperand .xor (.reg .l) s)
/-- `XOR (HL)` (R279). -/
def execXorAtHl (s : State) : Result := complete 8 (aluOperand .xor .atHl s)
/-- `XOR A` (R278). -/
def execXorA (s : State) : Result := complete 4 (aluOperand .xor (.reg .a) s)
/-- `OR B` (R281). -/
def execOrB (s : State) : Result := complete 4 (aluOperand .or (.reg .b) s)
/-- `OR C` (R281). -/
def execOrC (s : State) : Result := complete 4 (aluOperand .or (.reg .c) s)
/-- `OR D` (R281). -/
def execOrD (s : State) : Result := complete 4 (aluOperand .or (.reg .d) s)
/-- `OR E` (R281). -/
def execOrE (s : State) : Result := complete 4 (aluOperand .or (.reg .e) s)
/-- `OR H` (R281). -/
def execOrH (s : State) : Result := complete 4 (aluOperand .or (.reg .h) s)
/-- `OR L` (R281). -/
def execOrL (s : State) : Result := complete 4 (aluOperand .or (.reg .l) s)
/-- `OR (HL)` (R282). -/
def execOrAtHl (s : State) : Result := complete 8 (aluOperand .or .atHl s)
/-- `OR A` (R281). -/
def execOrA (s : State) : Result := complete 4 (aluOperand .or (.reg .a) s)
/-- `CP B` (R284). -/
def execCpB (s : State) : Result := complete 4 (aluOperand .cp (.reg .b) s)
/-- `CP C` (R284). -/
def execCpC (s : State) : Result := complete 4 (aluOperand .cp (.reg .c) s)
/-- `CP D` (R284). -/
def execCpD (s : State) : Result := complete 4 (aluOperand .cp (.reg .d) s)
/-- `CP E` (R284). -/
def execCpE (s : State) : Result := complete 4 (aluOperand .cp (.reg .e) s)
/-- `CP H` (R284). -/
def execCpH (s : State) : Result := complete 4 (aluOperand .cp (.reg .h) s)
/-- `CP L` (R284). -/
def execCpL (s : State) : Result := complete 4 (aluOperand .cp (.reg .l) s)
/-- `CP (HL)` (R285). -/
def execCpAtHl (s : State) : Result := complete 8 (aluOperand .cp .atHl s)
/-- `CP A` (R284). -/
def execCpA (s : State) : Result := complete 4 (aluOperand .cp (.reg .a) s)
/-- `ADD A,n8` (R265). -/
def execAddAN8 (n : Byte) (s : State) : Result := complete 8 (aluValue .add n s)
/-- `ADC A,n8` (R268). -/
def execAdcAN8 (n : Byte) (s : State) : Result := complete 8 (aluValue .adc n s)
/-- `SUB n8` (R271). -/
def execSubN8 (n : Byte) (s : State) : Result := complete 8 (aluValue .sub n s)
/-- `SBC A,n8` (R274). -/
def execSbcAN8 (n : Byte) (s : State) : Result := complete 8 (aluValue .sbc n s)
/-- `AND n8` (R277). -/
def execAndN8 (n : Byte) (s : State) : Result := complete 8 (aluValue .and n s)
/-- `XOR n8` (R280). -/
def execXorN8 (n : Byte) (s : State) : Result := complete 8 (aluValue .xor n s)
/-- `OR n8` (R283). -/
def execOrN8 (n : Byte) (s : State) : Result := complete 8 (aluValue .or n s)
/-- `CP n8` (R286). -/
def execCpN8 (n : Byte) (s : State) : Result := complete 8 (aluValue .cp n s)

end Sys2Proof.Machine
end

