-- ==== Sys2Proof/Machine/Rotate.lean ====
section
/-! DEFINITION. Rotates, shifts and bit operations (R320–R346), and the prefix that selects the extended table (R395). -/

namespace Sys2Proof.Machine

/-! ## The shared operations -/

/-- `RLCA`, `RRCA`, `RLA`, `RRA` (R320–R323). -/
def rotateA (op : ShiftOp) (s : State) : State := s.setAccumulator (accRotateFlags op s.a s.flags.c)

/-- A CB shift or rotate: the operand is read once, the result written, then the flags (R324–R340). -/
def shiftOperand (op : ShiftOp) (o : Operand8) (s : State) : State :=
  let r := shiftFlags op (s.operand8 o) s.flags.c
  (s.setOperand8 o r.1).setFlags r.2

/-- `BIT b` (R341, R342). Nothing is written but the flags. -/
def testBit (b : Fin 8) (o : Operand8) (s : State) : State := s.setFlags (bitFlags b (s.operand8 o) s.flags)

/-- `RES b` (R343, R344). -/
def resOperand (b : Fin 8) (o : Operand8) (s : State) : State := s.setOperand8 o (resetBit b (s.operand8 o))

/-- `SET b` (R345, R346). -/
def setOperand (b : Fin 8) (o : Operand8) (s : State) : State := s.setOperand8 o (setBit b (s.operand8 o))

/-! ## The prefix -/

/-- The operation of the extended instruction `op2`, by its fields (R163, R324). -/
def extOperation (op2 : Byte) : State → State :=
  match fieldX op2 with
  | 0 => shiftOperand (shiftOpOf (fieldY op2)) (operand8Of (fieldZ op2))
  | 1 => testBit (fieldY op2) (operand8Of (fieldZ op2))
  | 2 => resOperand (fieldY op2) (operand8Of (fieldZ op2))
  | 3 => setOperand (fieldY op2) (operand8Of (fieldZ op2))

/-- The duration of the extended instruction `op2`, prefix included: 8 on a register; on the byte at HL 12 for BIT, which
only reads, and 16 for the others (R325, R326, R341–R346). -/
def extCycles (op2 : Byte) : Nat :=
  operandCycles (operand8Of (fieldZ op2)) 8 (if fieldX op2 = 1 then 12 else 16)

/-- `PREFIX CB`: the byte is "not itself executed"; a second byte is fetched, and what happens is the extended
instruction it selects, with that instruction's duration (R395, R413). DESIGN CHOICE, safe: the table's row for the bare
prefix has a meaning of its own (log entry 5). -/
def execPrefixCb (s : State) : Result :=
  let fetched := s.fetch8
  complete (extCycles fetched.1) (extOperation fetched.1 fetched.2)

/-! ## The instructions -/

/-- `RLCA` (R320). -/
def execRlca (s : State) : Result := complete 4 (rotateA .rlc s)
/-- `RRCA` (R321). -/
def execRrca (s : State) : Result := complete 4 (rotateA .rrc s)
/-- `RLA` (R322). -/
def execRla (s : State) : Result := complete 4 (rotateA .rl s)
/-- `RRA` (R323). -/
def execRra (s : State) : Result := complete 4 (rotateA .rr s)
/-- `RLC B` (R325). -/
def execRlcB (s : State) : Result := complete 8 (shiftOperand .rlc (.reg .b) s)
/-- `RLC C` (R325). -/
def execRlcC (s : State) : Result := complete 8 (shiftOperand .rlc (.reg .c) s)
/-- `RLC D` (R325). -/
def execRlcD (s : State) : Result := complete 8 (shiftOperand .rlc (.reg .d) s)
/-- `RLC E` (R325). -/
def execRlcE (s : State) : Result := complete 8 (shiftOperand .rlc (.reg .e) s)
/-- `RLC H` (R325). -/
def execRlcH (s : State) : Result := complete 8 (shiftOperand .rlc (.reg .h) s)
/-- `RLC L` (R325). -/
def execRlcL (s : State) : Result := complete 8 (shiftOperand .rlc (.reg .l) s)
/-- `RLC (HL)` (R326). -/
def execRlcAtHl (s : State) : Result := complete 16 (shiftOperand .rlc .atHl s)
/-- `RLC A` (R325). -/
def execRlcA (s : State) : Result := complete 8 (shiftOperand .rlc (.reg .a) s)
/-- `RRC B` (R327). -/
def execRrcB (s : State) : Result := complete 8 (shiftOperand .rrc (.reg .b) s)
/-- `RRC C` (R327). -/
def execRrcC (s : State) : Result := complete 8 (shiftOperand .rrc (.reg .c) s)
/-- `RRC D` (R327). -/
def execRrcD (s : State) : Result := complete 8 (shiftOperand .rrc (.reg .d) s)
/-- `RRC E` (R327). -/
def execRrcE (s : State) : Result := complete 8 (shiftOperand .rrc (.reg .e) s)
/-- `RRC H` (R327). -/
def execRrcH (s : State) : Result := complete 8 (shiftOperand .rrc (.reg .h) s)
/-- `RRC L` (R327). -/
def execRrcL (s : State) : Result := complete 8 (shiftOperand .rrc (.reg .l) s)
/-- `RRC (HL)` (R328). -/
def execRrcAtHl (s : State) : Result := complete 16 (shiftOperand .rrc .atHl s)
/-- `RRC A` (R327). -/
def execRrcA (s : State) : Result := complete 8 (shiftOperand .rrc (.reg .a) s)
/-- `RL B` (R329). -/
def execRlB (s : State) : Result := complete 8 (shiftOperand .rl (.reg .b) s)
/-- `RL C` (R329). -/
def execRlC (s : State) : Result := complete 8 (shiftOperand .rl (.reg .c) s)
/-- `RL D` (R329). -/
def execRlD (s : State) : Result := complete 8 (shiftOperand .rl (.reg .d) s)
/-- `RL E` (R329). -/
def execRlE (s : State) : Result := complete 8 (shiftOperand .rl (.reg .e) s)
/-- `RL H` (R329). -/
def execRlH (s : State) : Result := complete 8 (shiftOperand .rl (.reg .h) s)
/-- `RL L` (R329). -/
def execRlL (s : State) : Result := complete 8 (shiftOperand .rl (.reg .l) s)
/-- `RL (HL)` (R330). -/
def execRlAtHl (s : State) : Result := complete 16 (shiftOperand .rl .atHl s)
/-- `RL A` (R329). -/
def execRlA (s : State) : Result := complete 8 (shiftOperand .rl (.reg .a) s)
/-- `RR B` (R331). -/
def execRrB (s : State) : Result := complete 8 (shiftOperand .rr (.reg .b) s)
/-- `RR C` (R331). -/
def execRrC (s : State) : Result := complete 8 (shiftOperand .rr (.reg .c) s)
/-- `RR D` (R331). -/
def execRrD (s : State) : Result := complete 8 (shiftOperand .rr (.reg .d) s)
/-- `RR E` (R331). -/
def execRrE (s : State) : Result := complete 8 (shiftOperand .rr (.reg .e) s)
/-- `RR H` (R331). -/
def execRrH (s : State) : Result := complete 8 (shiftOperand .rr (.reg .h) s)
/-- `RR L` (R331). -/
def execRrL (s : State) : Result := complete 8 (shiftOperand .rr (.reg .l) s)
/-- `RR (HL)` (R332). -/
def execRrAtHl (s : State) : Result := complete 16 (shiftOperand .rr .atHl s)
/-- `RR A` (R331). -/
def execRrA (s : State) : Result := complete 8 (shiftOperand .rr (.reg .a) s)
/-- `SLA B` (R333). -/
def execSlaB (s : State) : Result := complete 8 (shiftOperand .sla (.reg .b) s)
/-- `SLA C` (R333). -/
def execSlaC (s : State) : Result := complete 8 (shiftOperand .sla (.reg .c) s)
/-- `SLA D` (R333). -/
def execSlaD (s : State) : Result := complete 8 (shiftOperand .sla (.reg .d) s)
/-- `SLA E` (R333). -/
def execSlaE (s : State) : Result := complete 8 (shiftOperand .sla (.reg .e) s)
/-- `SLA H` (R333). -/
def execSlaH (s : State) : Result := complete 8 (shiftOperand .sla (.reg .h) s)
/-- `SLA L` (R333). -/
def execSlaL (s : State) : Result := complete 8 (shiftOperand .sla (.reg .l) s)
/-- `SLA (HL)` (R334). -/
def execSlaAtHl (s : State) : Result := complete 16 (shiftOperand .sla .atHl s)
/-- `SLA A` (R333). -/
def execSlaA (s : State) : Result := complete 8 (shiftOperand .sla (.reg .a) s)
/-- `SRA B` (R335). -/
def execSraB (s : State) : Result := complete 8 (shiftOperand .sra (.reg .b) s)
/-- `SRA C` (R335). -/
def execSraC (s : State) : Result := complete 8 (shiftOperand .sra (.reg .c) s)
/-- `SRA D` (R335). -/
def execSraD (s : State) : Result := complete 8 (shiftOperand .sra (.reg .d) s)
/-- `SRA E` (R335). -/
def execSraE (s : State) : Result := complete 8 (shiftOperand .sra (.reg .e) s)
/-- `SRA H` (R335). -/
def execSraH (s : State) : Result := complete 8 (shiftOperand .sra (.reg .h) s)
/-- `SRA L` (R335). -/
def execSraL (s : State) : Result := complete 8 (shiftOperand .sra (.reg .l) s)
/-- `SRA (HL)` (R336). -/
def execSraAtHl (s : State) : Result := complete 16 (shiftOperand .sra .atHl s)
/-- `SRA A` (R335). -/
def execSraA (s : State) : Result := complete 8 (shiftOperand .sra (.reg .a) s)
/-- `SWAP B` (R337). -/
def execSwapB (s : State) : Result := complete 8 (shiftOperand .swap (.reg .b) s)
/-- `SWAP C` (R337). -/
def execSwapC (s : State) : Result := complete 8 (shiftOperand .swap (.reg .c) s)
/-- `SWAP D` (R337). -/
def execSwapD (s : State) : Result := complete 8 (shiftOperand .swap (.reg .d) s)
/-- `SWAP E` (R337). -/
def execSwapE (s : State) : Result := complete 8 (shiftOperand .swap (.reg .e) s)
/-- `SWAP H` (R337). -/
def execSwapH (s : State) : Result := complete 8 (shiftOperand .swap (.reg .h) s)
/-- `SWAP L` (R337). -/
def execSwapL (s : State) : Result := complete 8 (shiftOperand .swap (.reg .l) s)
/-- `SWAP (HL)` (R338). -/
def execSwapAtHl (s : State) : Result := complete 16 (shiftOperand .swap .atHl s)
/-- `SWAP A` (R337). -/
def execSwapA (s : State) : Result := complete 8 (shiftOperand .swap (.reg .a) s)
/-- `SRL B` (R339). -/
def execSrlB (s : State) : Result := complete 8 (shiftOperand .srl (.reg .b) s)
/-- `SRL C` (R339). -/
def execSrlC (s : State) : Result := complete 8 (shiftOperand .srl (.reg .c) s)
/-- `SRL D` (R339). -/
def execSrlD (s : State) : Result := complete 8 (shiftOperand .srl (.reg .d) s)
/-- `SRL E` (R339). -/
def execSrlE (s : State) : Result := complete 8 (shiftOperand .srl (.reg .e) s)
/-- `SRL H` (R339). -/
def execSrlH (s : State) : Result := complete 8 (shiftOperand .srl (.reg .h) s)
/-- `SRL L` (R339). -/
def execSrlL (s : State) : Result := complete 8 (shiftOperand .srl (.reg .l) s)
/-- `SRL (HL)` (R340). -/
def execSrlAtHl (s : State) : Result := complete 16 (shiftOperand .srl .atHl s)
/-- `SRL A` (R339). -/
def execSrlA (s : State) : Result := complete 8 (shiftOperand .srl (.reg .a) s)
/-- `BIT 0,B` (R341). -/
def execBit0B (s : State) : Result := complete 8 (testBit 0 (.reg .b) s)
/-- `BIT 0,C` (R341). -/
def execBit0C (s : State) : Result := complete 8 (testBit 0 (.reg .c) s)
/-- `BIT 0,D` (R341). -/
def execBit0D (s : State) : Result := complete 8 (testBit 0 (.reg .d) s)
/-- `BIT 0,E` (R341). -/
def execBit0E (s : State) : Result := complete 8 (testBit 0 (.reg .e) s)
/-- `BIT 0,H` (R341). -/
def execBit0H (s : State) : Result := complete 8 (testBit 0 (.reg .h) s)
/-- `BIT 0,L` (R341). -/
def execBit0L (s : State) : Result := complete 8 (testBit 0 (.reg .l) s)
/-- `BIT 0,(HL)` (R342). -/
def execBit0AtHl (s : State) : Result := complete 12 (testBit 0 .atHl s)
/-- `BIT 0,A` (R341). -/
def execBit0A (s : State) : Result := complete 8 (testBit 0 (.reg .a) s)
/-- `BIT 1,B` (R341). -/
def execBit1B (s : State) : Result := complete 8 (testBit 1 (.reg .b) s)
/-- `BIT 1,C` (R341). -/
def execBit1C (s : State) : Result := complete 8 (testBit 1 (.reg .c) s)
/-- `BIT 1,D` (R341). -/
def execBit1D (s : State) : Result := complete 8 (testBit 1 (.reg .d) s)
/-- `BIT 1,E` (R341). -/
def execBit1E (s : State) : Result := complete 8 (testBit 1 (.reg .e) s)
/-- `BIT 1,H` (R341). -/
def execBit1H (s : State) : Result := complete 8 (testBit 1 (.reg .h) s)
/-- `BIT 1,L` (R341). -/
def execBit1L (s : State) : Result := complete 8 (testBit 1 (.reg .l) s)
/-- `BIT 1,(HL)` (R342). -/
def execBit1AtHl (s : State) : Result := complete 12 (testBit 1 .atHl s)
/-- `BIT 1,A` (R341). -/
def execBit1A (s : State) : Result := complete 8 (testBit 1 (.reg .a) s)
/-- `BIT 2,B` (R341). -/
def execBit2B (s : State) : Result := complete 8 (testBit 2 (.reg .b) s)
/-- `BIT 2,C` (R341). -/
def execBit2C (s : State) : Result := complete 8 (testBit 2 (.reg .c) s)
/-- `BIT 2,D` (R341). -/
def execBit2D (s : State) : Result := complete 8 (testBit 2 (.reg .d) s)
/-- `BIT 2,E` (R341). -/
def execBit2E (s : State) : Result := complete 8 (testBit 2 (.reg .e) s)
/-- `BIT 2,H` (R341). -/
def execBit2H (s : State) : Result := complete 8 (testBit 2 (.reg .h) s)
/-- `BIT 2,L` (R341). -/
def execBit2L (s : State) : Result := complete 8 (testBit 2 (.reg .l) s)
/-- `BIT 2,(HL)` (R342). -/
def execBit2AtHl (s : State) : Result := complete 12 (testBit 2 .atHl s)
/-- `BIT 2,A` (R341). -/
def execBit2A (s : State) : Result := complete 8 (testBit 2 (.reg .a) s)
/-- `BIT 3,B` (R341). -/
def execBit3B (s : State) : Result := complete 8 (testBit 3 (.reg .b) s)
/-- `BIT 3,C` (R341). -/
def execBit3C (s : State) : Result := complete 8 (testBit 3 (.reg .c) s)
/-- `BIT 3,D` (R341). -/
def execBit3D (s : State) : Result := complete 8 (testBit 3 (.reg .d) s)
/-- `BIT 3,E` (R341). -/
def execBit3E (s : State) : Result := complete 8 (testBit 3 (.reg .e) s)
/-- `BIT 3,H` (R341). -/
def execBit3H (s : State) : Result := complete 8 (testBit 3 (.reg .h) s)
/-- `BIT 3,L` (R341). -/
def execBit3L (s : State) : Result := complete 8 (testBit 3 (.reg .l) s)
/-- `BIT 3,(HL)` (R342). -/
def execBit3AtHl (s : State) : Result := complete 12 (testBit 3 .atHl s)
/-- `BIT 3,A` (R341). -/
def execBit3A (s : State) : Result := complete 8 (testBit 3 (.reg .a) s)
/-- `BIT 4,B` (R341). -/
def execBit4B (s : State) : Result := complete 8 (testBit 4 (.reg .b) s)
/-- `BIT 4,C` (R341). -/
def execBit4C (s : State) : Result := complete 8 (testBit 4 (.reg .c) s)
/-- `BIT 4,D` (R341). -/
def execBit4D (s : State) : Result := complete 8 (testBit 4 (.reg .d) s)
/-- `BIT 4,E` (R341). -/
def execBit4E (s : State) : Result := complete 8 (testBit 4 (.reg .e) s)
/-- `BIT 4,H` (R341). -/
def execBit4H (s : State) : Result := complete 8 (testBit 4 (.reg .h) s)
/-- `BIT 4,L` (R341). -/
def execBit4L (s : State) : Result := complete 8 (testBit 4 (.reg .l) s)
/-- `BIT 4,(HL)` (R342). -/
def execBit4AtHl (s : State) : Result := complete 12 (testBit 4 .atHl s)
/-- `BIT 4,A` (R341). -/
def execBit4A (s : State) : Result := complete 8 (testBit 4 (.reg .a) s)
/-- `BIT 5,B` (R341). -/
def execBit5B (s : State) : Result := complete 8 (testBit 5 (.reg .b) s)
/-- `BIT 5,C` (R341). -/
def execBit5C (s : State) : Result := complete 8 (testBit 5 (.reg .c) s)
/-- `BIT 5,D` (R341). -/
def execBit5D (s : State) : Result := complete 8 (testBit 5 (.reg .d) s)
/-- `BIT 5,E` (R341). -/
def execBit5E (s : State) : Result := complete 8 (testBit 5 (.reg .e) s)
/-- `BIT 5,H` (R341). -/
def execBit5H (s : State) : Result := complete 8 (testBit 5 (.reg .h) s)
/-- `BIT 5,L` (R341). -/
def execBit5L (s : State) : Result := complete 8 (testBit 5 (.reg .l) s)
/-- `BIT 5,(HL)` (R342). -/
def execBit5AtHl (s : State) : Result := complete 12 (testBit 5 .atHl s)
/-- `BIT 5,A` (R341). -/
def execBit5A (s : State) : Result := complete 8 (testBit 5 (.reg .a) s)
/-- `BIT 6,B` (R341). -/
def execBit6B (s : State) : Result := complete 8 (testBit 6 (.reg .b) s)
/-- `BIT 6,C` (R341). -/
def execBit6C (s : State) : Result := complete 8 (testBit 6 (.reg .c) s)
/-- `BIT 6,D` (R341). -/
def execBit6D (s : State) : Result := complete 8 (testBit 6 (.reg .d) s)
/-- `BIT 6,E` (R341). -/
def execBit6E (s : State) : Result := complete 8 (testBit 6 (.reg .e) s)
/-- `BIT 6,H` (R341). -/
def execBit6H (s : State) : Result := complete 8 (testBit 6 (.reg .h) s)
/-- `BIT 6,L` (R341). -/
def execBit6L (s : State) : Result := complete 8 (testBit 6 (.reg .l) s)
/-- `BIT 6,(HL)` (R342). -/
def execBit6AtHl (s : State) : Result := complete 12 (testBit 6 .atHl s)
/-- `BIT 6,A` (R341). -/
def execBit6A (s : State) : Result := complete 8 (testBit 6 (.reg .a) s)
/-- `BIT 7,B` (R341). -/
def execBit7B (s : State) : Result := complete 8 (testBit 7 (.reg .b) s)
/-- `BIT 7,C` (R341). -/
def execBit7C (s : State) : Result := complete 8 (testBit 7 (.reg .c) s)
/-- `BIT 7,D` (R341). -/
def execBit7D (s : State) : Result := complete 8 (testBit 7 (.reg .d) s)
/-- `BIT 7,E` (R341). -/
def execBit7E (s : State) : Result := complete 8 (testBit 7 (.reg .e) s)
/-- `BIT 7,H` (R341). -/
def execBit7H (s : State) : Result := complete 8 (testBit 7 (.reg .h) s)
/-- `BIT 7,L` (R341). -/
def execBit7L (s : State) : Result := complete 8 (testBit 7 (.reg .l) s)
/-- `BIT 7,(HL)` (R342). -/
def execBit7AtHl (s : State) : Result := complete 12 (testBit 7 .atHl s)
/-- `BIT 7,A` (R341). -/
def execBit7A (s : State) : Result := complete 8 (testBit 7 (.reg .a) s)
/-- `RES 0,B` (R343). -/
def execRes0B (s : State) : Result := complete 8 (resOperand 0 (.reg .b) s)
/-- `RES 0,C` (R343). -/
def execRes0C (s : State) : Result := complete 8 (resOperand 0 (.reg .c) s)
/-- `RES 0,D` (R343). -/
def execRes0D (s : State) : Result := complete 8 (resOperand 0 (.reg .d) s)
/-- `RES 0,E` (R343). -/
def execRes0E (s : State) : Result := complete 8 (resOperand 0 (.reg .e) s)
/-- `RES 0,H` (R343). -/
def execRes0H (s : State) : Result := complete 8 (resOperand 0 (.reg .h) s)
/-- `RES 0,L` (R343). -/
def execRes0L (s : State) : Result := complete 8 (resOperand 0 (.reg .l) s)
/-- `RES 0,(HL)` (R344). -/
def execRes0AtHl (s : State) : Result := complete 16 (resOperand 0 .atHl s)
/-- `RES 0,A` (R343). -/
def execRes0A (s : State) : Result := complete 8 (resOperand 0 (.reg .a) s)
/-- `RES 1,B` (R343). -/
def execRes1B (s : State) : Result := complete 8 (resOperand 1 (.reg .b) s)
/-- `RES 1,C` (R343). -/
def execRes1C (s : State) : Result := complete 8 (resOperand 1 (.reg .c) s)
/-- `RES 1,D` (R343). -/
def execRes1D (s : State) : Result := complete 8 (resOperand 1 (.reg .d) s)
/-- `RES 1,E` (R343). -/
def execRes1E (s : State) : Result := complete 8 (resOperand 1 (.reg .e) s)
/-- `RES 1,H` (R343). -/
def execRes1H (s : State) : Result := complete 8 (resOperand 1 (.reg .h) s)
/-- `RES 1,L` (R343). -/
def execRes1L (s : State) : Result := complete 8 (resOperand 1 (.reg .l) s)
/-- `RES 1,(HL)` (R344). -/
def execRes1AtHl (s : State) : Result := complete 16 (resOperand 1 .atHl s)
/-- `RES 1,A` (R343). -/
def execRes1A (s : State) : Result := complete 8 (resOperand 1 (.reg .a) s)
/-- `RES 2,B` (R343). -/
def execRes2B (s : State) : Result := complete 8 (resOperand 2 (.reg .b) s)
/-- `RES 2,C` (R343). -/
def execRes2C (s : State) : Result := complete 8 (resOperand 2 (.reg .c) s)
/-- `RES 2,D` (R343). -/
def execRes2D (s : State) : Result := complete 8 (resOperand 2 (.reg .d) s)
/-- `RES 2,E` (R343). -/
def execRes2E (s : State) : Result := complete 8 (resOperand 2 (.reg .e) s)
/-- `RES 2,H` (R343). -/
def execRes2H (s : State) : Result := complete 8 (resOperand 2 (.reg .h) s)
/-- `RES 2,L` (R343). -/
def execRes2L (s : State) : Result := complete 8 (resOperand 2 (.reg .l) s)
/-- `RES 2,(HL)` (R344). -/
def execRes2AtHl (s : State) : Result := complete 16 (resOperand 2 .atHl s)
/-- `RES 2,A` (R343). -/
def execRes2A (s : State) : Result := complete 8 (resOperand 2 (.reg .a) s)
/-- `RES 3,B` (R343). -/
def execRes3B (s : State) : Result := complete 8 (resOperand 3 (.reg .b) s)
/-- `RES 3,C` (R343). -/
def execRes3C (s : State) : Result := complete 8 (resOperand 3 (.reg .c) s)
/-- `RES 3,D` (R343). -/
def execRes3D (s : State) : Result := complete 8 (resOperand 3 (.reg .d) s)
/-- `RES 3,E` (R343). -/
def execRes3E (s : State) : Result := complete 8 (resOperand 3 (.reg .e) s)
/-- `RES 3,H` (R343). -/
def execRes3H (s : State) : Result := complete 8 (resOperand 3 (.reg .h) s)
/-- `RES 3,L` (R343). -/
def execRes3L (s : State) : Result := complete 8 (resOperand 3 (.reg .l) s)
/-- `RES 3,(HL)` (R344). -/
def execRes3AtHl (s : State) : Result := complete 16 (resOperand 3 .atHl s)
/-- `RES 3,A` (R343). -/
def execRes3A (s : State) : Result := complete 8 (resOperand 3 (.reg .a) s)
/-- `RES 4,B` (R343). -/
def execRes4B (s : State) : Result := complete 8 (resOperand 4 (.reg .b) s)
/-- `RES 4,C` (R343). -/
def execRes4C (s : State) : Result := complete 8 (resOperand 4 (.reg .c) s)
/-- `RES 4,D` (R343). -/
def execRes4D (s : State) : Result := complete 8 (resOperand 4 (.reg .d) s)
/-- `RES 4,E` (R343). -/
def execRes4E (s : State) : Result := complete 8 (resOperand 4 (.reg .e) s)
/-- `RES 4,H` (R343). -/
def execRes4H (s : State) : Result := complete 8 (resOperand 4 (.reg .h) s)
/-- `RES 4,L` (R343). -/
def execRes4L (s : State) : Result := complete 8 (resOperand 4 (.reg .l) s)
/-- `RES 4,(HL)` (R344). -/
def execRes4AtHl (s : State) : Result := complete 16 (resOperand 4 .atHl s)
/-- `RES 4,A` (R343). -/
def execRes4A (s : State) : Result := complete 8 (resOperand 4 (.reg .a) s)
/-- `RES 5,B` (R343). -/
def execRes5B (s : State) : Result := complete 8 (resOperand 5 (.reg .b) s)
/-- `RES 5,C` (R343). -/
def execRes5C (s : State) : Result := complete 8 (resOperand 5 (.reg .c) s)
/-- `RES 5,D` (R343). -/
def execRes5D (s : State) : Result := complete 8 (resOperand 5 (.reg .d) s)
/-- `RES 5,E` (R343). -/
def execRes5E (s : State) : Result := complete 8 (resOperand 5 (.reg .e) s)
/-- `RES 5,H` (R343). -/
def execRes5H (s : State) : Result := complete 8 (resOperand 5 (.reg .h) s)
/-- `RES 5,L` (R343). -/
def execRes5L (s : State) : Result := complete 8 (resOperand 5 (.reg .l) s)
/-- `RES 5,(HL)` (R344). -/
def execRes5AtHl (s : State) : Result := complete 16 (resOperand 5 .atHl s)
/-- `RES 5,A` (R343). -/
def execRes5A (s : State) : Result := complete 8 (resOperand 5 (.reg .a) s)
/-- `RES 6,B` (R343). -/
def execRes6B (s : State) : Result := complete 8 (resOperand 6 (.reg .b) s)
/-- `RES 6,C` (R343). -/
def execRes6C (s : State) : Result := complete 8 (resOperand 6 (.reg .c) s)
/-- `RES 6,D` (R343). -/
def execRes6D (s : State) : Result := complete 8 (resOperand 6 (.reg .d) s)
/-- `RES 6,E` (R343). -/
def execRes6E (s : State) : Result := complete 8 (resOperand 6 (.reg .e) s)
/-- `RES 6,H` (R343). -/
def execRes6H (s : State) : Result := complete 8 (resOperand 6 (.reg .h) s)
/-- `RES 6,L` (R343). -/
def execRes6L (s : State) : Result := complete 8 (resOperand 6 (.reg .l) s)
/-- `RES 6,(HL)` (R344). -/
def execRes6AtHl (s : State) : Result := complete 16 (resOperand 6 .atHl s)
/-- `RES 6,A` (R343). -/
def execRes6A (s : State) : Result := complete 8 (resOperand 6 (.reg .a) s)
/-- `RES 7,B` (R343). -/
def execRes7B (s : State) : Result := complete 8 (resOperand 7 (.reg .b) s)
/-- `RES 7,C` (R343). -/
def execRes7C (s : State) : Result := complete 8 (resOperand 7 (.reg .c) s)
/-- `RES 7,D` (R343). -/
def execRes7D (s : State) : Result := complete 8 (resOperand 7 (.reg .d) s)
/-- `RES 7,E` (R343). -/
def execRes7E (s : State) : Result := complete 8 (resOperand 7 (.reg .e) s)
/-- `RES 7,H` (R343). -/
def execRes7H (s : State) : Result := complete 8 (resOperand 7 (.reg .h) s)
/-- `RES 7,L` (R343). -/
def execRes7L (s : State) : Result := complete 8 (resOperand 7 (.reg .l) s)
/-- `RES 7,(HL)` (R344). -/
def execRes7AtHl (s : State) : Result := complete 16 (resOperand 7 .atHl s)
/-- `RES 7,A` (R343). -/
def execRes7A (s : State) : Result := complete 8 (resOperand 7 (.reg .a) s)
/-- `SET 0,B` (R345). -/
def execSet0B (s : State) : Result := complete 8 (setOperand 0 (.reg .b) s)
/-- `SET 0,C` (R345). -/
def execSet0C (s : State) : Result := complete 8 (setOperand 0 (.reg .c) s)
/-- `SET 0,D` (R345). -/
def execSet0D (s : State) : Result := complete 8 (setOperand 0 (.reg .d) s)
/-- `SET 0,E` (R345). -/
def execSet0E (s : State) : Result := complete 8 (setOperand 0 (.reg .e) s)
/-- `SET 0,H` (R345). -/
def execSet0H (s : State) : Result := complete 8 (setOperand 0 (.reg .h) s)
/-- `SET 0,L` (R345). -/
def execSet0L (s : State) : Result := complete 8 (setOperand 0 (.reg .l) s)
/-- `SET 0,(HL)` (R346). -/
def execSet0AtHl (s : State) : Result := complete 16 (setOperand 0 .atHl s)
/-- `SET 0,A` (R345). -/
def execSet0A (s : State) : Result := complete 8 (setOperand 0 (.reg .a) s)
/-- `SET 1,B` (R345). -/
def execSet1B (s : State) : Result := complete 8 (setOperand 1 (.reg .b) s)
/-- `SET 1,C` (R345). -/
def execSet1C (s : State) : Result := complete 8 (setOperand 1 (.reg .c) s)
/-- `SET 1,D` (R345). -/
def execSet1D (s : State) : Result := complete 8 (setOperand 1 (.reg .d) s)
/-- `SET 1,E` (R345). -/
def execSet1E (s : State) : Result := complete 8 (setOperand 1 (.reg .e) s)
/-- `SET 1,H` (R345). -/
def execSet1H (s : State) : Result := complete 8 (setOperand 1 (.reg .h) s)
/-- `SET 1,L` (R345). -/
def execSet1L (s : State) : Result := complete 8 (setOperand 1 (.reg .l) s)
/-- `SET 1,(HL)` (R346). -/
def execSet1AtHl (s : State) : Result := complete 16 (setOperand 1 .atHl s)
/-- `SET 1,A` (R345). -/
def execSet1A (s : State) : Result := complete 8 (setOperand 1 (.reg .a) s)
/-- `SET 2,B` (R345). -/
def execSet2B (s : State) : Result := complete 8 (setOperand 2 (.reg .b) s)
/-- `SET 2,C` (R345). -/
def execSet2C (s : State) : Result := complete 8 (setOperand 2 (.reg .c) s)
/-- `SET 2,D` (R345). -/
def execSet2D (s : State) : Result := complete 8 (setOperand 2 (.reg .d) s)
/-- `SET 2,E` (R345). -/
def execSet2E (s : State) : Result := complete 8 (setOperand 2 (.reg .e) s)
/-- `SET 2,H` (R345). -/
def execSet2H (s : State) : Result := complete 8 (setOperand 2 (.reg .h) s)
/-- `SET 2,L` (R345). -/
def execSet2L (s : State) : Result := complete 8 (setOperand 2 (.reg .l) s)
/-- `SET 2,(HL)` (R346). -/
def execSet2AtHl (s : State) : Result := complete 16 (setOperand 2 .atHl s)
/-- `SET 2,A` (R345). -/
def execSet2A (s : State) : Result := complete 8 (setOperand 2 (.reg .a) s)
/-- `SET 3,B` (R345). -/
def execSet3B (s : State) : Result := complete 8 (setOperand 3 (.reg .b) s)
/-- `SET 3,C` (R345). -/
def execSet3C (s : State) : Result := complete 8 (setOperand 3 (.reg .c) s)
/-- `SET 3,D` (R345). -/
def execSet3D (s : State) : Result := complete 8 (setOperand 3 (.reg .d) s)
/-- `SET 3,E` (R345). -/
def execSet3E (s : State) : Result := complete 8 (setOperand 3 (.reg .e) s)
/-- `SET 3,H` (R345). -/
def execSet3H (s : State) : Result := complete 8 (setOperand 3 (.reg .h) s)
/-- `SET 3,L` (R345). -/
def execSet3L (s : State) : Result := complete 8 (setOperand 3 (.reg .l) s)
/-- `SET 3,(HL)` (R346). -/
def execSet3AtHl (s : State) : Result := complete 16 (setOperand 3 .atHl s)
/-- `SET 3,A` (R345). -/
def execSet3A (s : State) : Result := complete 8 (setOperand 3 (.reg .a) s)
/-- `SET 4,B` (R345). -/
def execSet4B (s : State) : Result := complete 8 (setOperand 4 (.reg .b) s)
/-- `SET 4,C` (R345). -/
def execSet4C (s : State) : Result := complete 8 (setOperand 4 (.reg .c) s)
/-- `SET 4,D` (R345). -/
def execSet4D (s : State) : Result := complete 8 (setOperand 4 (.reg .d) s)
/-- `SET 4,E` (R345). -/
def execSet4E (s : State) : Result := complete 8 (setOperand 4 (.reg .e) s)
/-- `SET 4,H` (R345). -/
def execSet4H (s : State) : Result := complete 8 (setOperand 4 (.reg .h) s)
/-- `SET 4,L` (R345). -/
def execSet4L (s : State) : Result := complete 8 (setOperand 4 (.reg .l) s)
/-- `SET 4,(HL)` (R346). -/
def execSet4AtHl (s : State) : Result := complete 16 (setOperand 4 .atHl s)
/-- `SET 4,A` (R345). -/
def execSet4A (s : State) : Result := complete 8 (setOperand 4 (.reg .a) s)
/-- `SET 5,B` (R345). -/
def execSet5B (s : State) : Result := complete 8 (setOperand 5 (.reg .b) s)
/-- `SET 5,C` (R345). -/
def execSet5C (s : State) : Result := complete 8 (setOperand 5 (.reg .c) s)
/-- `SET 5,D` (R345). -/
def execSet5D (s : State) : Result := complete 8 (setOperand 5 (.reg .d) s)
/-- `SET 5,E` (R345). -/
def execSet5E (s : State) : Result := complete 8 (setOperand 5 (.reg .e) s)
/-- `SET 5,H` (R345). -/
def execSet5H (s : State) : Result := complete 8 (setOperand 5 (.reg .h) s)
/-- `SET 5,L` (R345). -/
def execSet5L (s : State) : Result := complete 8 (setOperand 5 (.reg .l) s)
/-- `SET 5,(HL)` (R346). -/
def execSet5AtHl (s : State) : Result := complete 16 (setOperand 5 .atHl s)
/-- `SET 5,A` (R345). -/
def execSet5A (s : State) : Result := complete 8 (setOperand 5 (.reg .a) s)
/-- `SET 6,B` (R345). -/
def execSet6B (s : State) : Result := complete 8 (setOperand 6 (.reg .b) s)
/-- `SET 6,C` (R345). -/
def execSet6C (s : State) : Result := complete 8 (setOperand 6 (.reg .c) s)
/-- `SET 6,D` (R345). -/
def execSet6D (s : State) : Result := complete 8 (setOperand 6 (.reg .d) s)
/-- `SET 6,E` (R345). -/
def execSet6E (s : State) : Result := complete 8 (setOperand 6 (.reg .e) s)
/-- `SET 6,H` (R345). -/
def execSet6H (s : State) : Result := complete 8 (setOperand 6 (.reg .h) s)
/-- `SET 6,L` (R345). -/
def execSet6L (s : State) : Result := complete 8 (setOperand 6 (.reg .l) s)
/-- `SET 6,(HL)` (R346). -/
def execSet6AtHl (s : State) : Result := complete 16 (setOperand 6 .atHl s)
/-- `SET 6,A` (R345). -/
def execSet6A (s : State) : Result := complete 8 (setOperand 6 (.reg .a) s)
/-- `SET 7,B` (R345). -/
def execSet7B (s : State) : Result := complete 8 (setOperand 7 (.reg .b) s)
/-- `SET 7,C` (R345). -/
def execSet7C (s : State) : Result := complete 8 (setOperand 7 (.reg .c) s)
/-- `SET 7,D` (R345). -/
def execSet7D (s : State) : Result := complete 8 (setOperand 7 (.reg .d) s)
/-- `SET 7,E` (R345). -/
def execSet7E (s : State) : Result := complete 8 (setOperand 7 (.reg .e) s)
/-- `SET 7,H` (R345). -/
def execSet7H (s : State) : Result := complete 8 (setOperand 7 (.reg .h) s)
/-- `SET 7,L` (R345). -/
def execSet7L (s : State) : Result := complete 8 (setOperand 7 (.reg .l) s)
/-- `SET 7,(HL)` (R346). -/
def execSet7AtHl (s : State) : Result := complete 16 (setOperand 7 .atHl s)
/-- `SET 7,A` (R345). -/
def execSet7A (s : State) : Result := complete 8 (setOperand 7 (.reg .a) s)

end Sys2Proof.Machine
end

