-- ==== Sys2Proof/Machine/System.lean ====
section
/-! DEFINITION. Control of the CPU (R390–R396). -/

namespace Sys2Proof.Machine

/-! ## The shared operations -/

/-- `state <- HALTED` (R391). -/
def haltCpu (s : State) : State := { s with run := .halted }

/-- `state <- STOPPED` (R392). -/
def stopCpu (s : State) : State := { s with run := .stopped }

/-- `IME <- 0` (R393). -/
def disableInterrupts (s : State) : State := { s with ime := false }

/-- `IME <- 1; eiLatch <- 1` (R394). -/
def enableInterrupts (s : State) : State := { s with ime := true, eiLatch := true }

/-- An unused opcode: the panic, found at the byte before PC, no cycle charged (R396, D33). -/
def unusedOpcode (op : Byte) (s : State) : Result :=
  .next (s.raisePanic { opcode := op, isExtended := false, foundAtAddress := s.pc - 1 })

/-! ## The instructions -/

/-- `NOP` (R390). -/
def execNop (s : State) : Result := complete 4 s
/-- `STOP` (R392). -/
def execStop (_ : Byte) (s : State) : Result := complete 4 (stopCpu s)
/-- `HALT` (R391). -/
def execHalt (s : State) : Result := complete 4 (haltCpu s)
/-- `UNUSED_D3` (R396). -/
def execUnusedD3 (s : State) : Result := unusedOpcode 0xD3 s
/-- `UNUSED_DB` (R396). -/
def execUnusedDb (s : State) : Result := unusedOpcode 0xDB s
/-- `UNUSED_DD` (R396). -/
def execUnusedDd (s : State) : Result := unusedOpcode 0xDD s
/-- `UNUSED_E3` (R396). -/
def execUnusedE3 (s : State) : Result := unusedOpcode 0xE3 s
/-- `UNUSED_E4` (R396). -/
def execUnusedE4 (s : State) : Result := unusedOpcode 0xE4 s
/-- `UNUSED_EB` (R396). -/
def execUnusedEb (s : State) : Result := unusedOpcode 0xEB s
/-- `UNUSED_EC` (R396). -/
def execUnusedEc (s : State) : Result := unusedOpcode 0xEC s
/-- `UNUSED_ED` (R396). -/
def execUnusedEd (s : State) : Result := unusedOpcode 0xED s
/-- `DI` (R393). -/
def execDi (s : State) : Result := complete 4 (disableInterrupts s)
/-- `UNUSED_F4` (R396). -/
def execUnusedF4 (s : State) : Result := unusedOpcode 0xF4 s
/-- `EI` (R394). -/
def execEi (s : State) : Result := complete 4 (enableInterrupts s)
/-- `UNUSED_FC` (R396). -/
def execUnusedFc (s : State) : Result := unusedOpcode 0xFC s
/-- `UNUSED_FD` (R396). -/
def execUnusedFd (s : State) : Result := unusedOpcode 0xFD s

end Sys2Proof.Machine
end

