-- ==== Sys2Proof/Machine/Ppu.lean ====
section
/-! DEFINITION. The PPU: the scanline state machine (R490–R502) and the tile and object renderer (R503–R523). It reads and
writes memory raw (R116, R524). -/

namespace Sys2Proof.Machine

/-! ## Modes and timing -/

/-- The PPU modes (R57, R492). -/
inductive PpuMode where
  | hblank
  | vblank
  | oamSearch
  | pixelTransfer
  deriving DecidableEq, Repr

/-- The encoding of a mode in STAT bits 1..0 (R57, R492). -/
def PpuMode.code : PpuMode → Byte
  | .hblank => 0
  | .vblank => 1
  | .oamSearch => 2
  | .pixelTransfer => 3

/-- The mode that a value of STAT shows in its bits 1..0. -/
def PpuMode.ofStat (stat : Byte) : PpuMode :=
  match stat.getLsbD 1, stat.getLsbD 0 with
  | false, false => .hblank
  | false, true => .vblank
  | true, false => .oamSearch
  | true, true => .pixelTransfer

/-- T-cycles of a scanline (R490). -/
def dotsPerLine : Nat := 456

/-- Scanlines of a frame (R490). -/
def linesPerFrame : Nat := 154

/-- T-cycles of a frame, 154 × 456 (R490). -/
def dotsPerFrame : Nat := 70224

/-- Visible scanlines (R495). -/
def visibleLines : Nat := 144

/-- `ModeOf(ly, line)` (R495). -/
def modeOf (ly line : Nat) : PpuMode :=
  if visibleLines ≤ ly then .vblank
  else if line < 80 then .oamSearch
  else if line < 252 then .pixelTransfer
  else .hblank

/-- The scanline number of a position in the frame (R493). -/
def scanlineOf (frameSync : Nat) : Nat := frameSync / dotsPerLine % linesPerFrame

/-- `LcdOff()` (R491). -/
def State.lcdOff (s : State) : State := ({ s with frameSync := 0, windowLine := 0 }).rawWrite 0xFF44 0

/-- `CoincidenceCheck()` (R494), the same update as the LYC write's (R110). -/
def State.coincidenceCheck (s : State) : State := s.coincidenceRecheck

/-- The condition of the STAT interrupt at a transition into mode `m` (R497). -/
def State.statCondition (s : State) (m : PpuMode) : Bool :=
  let stat := s.rawRead 0xFF41
  let src :=
    match m with
    | .hblank => stat.getLsbD 3
    | .vblank => stat.getLsbD 4
    | .oamSearch => stat.getLsbD 5
    | .pixelTransfer => false
  src || (s.rawRead 0xFF44 == s.rawRead 0xFF45 && stat.getLsbD 6)

/-- `StatInterruptCheck(m)` (R497). -/
def State.statInterruptCheck (s : State) (m : PpuMode) : State := if s.statCondition m then s.setIf 1 else s

/-- `VBlankEntry()` (R499). -/
def State.vblankEntry (s : State) : State := { s.setIf 0 with front := s.back }

/-- `NewFrame()` (R500). -/
def State.newFrame (s : State) : State := { s with windowLine := 0, back := blankFrame }

/-! ## Background and window -/

/-- `TileAddr(idx, unsignedMode)` (R508): unsigned from 0x8000, or signed from 0x8800 with 128 added. -/
def tileAddr (idx : Byte) (unsignedMode : Bool) : Word :=
  if unsignedMode then 0x8000 + BitVec.ofNat 16 (idx.toNat * 16)
  else 0x8800 + BitVec.ofNat 16 ((idx.toNat + 128) % 256 * 16)

/-- Two tile-line bytes combined at a bit: byte 1 contributes 1, byte 2 contributes 2 (R509, R519). -/
def colourIndex (b1 b2 : Byte) (bit : Nat) : Shade :=
  (if b1.getLsbD bit then 1 else 0) + (if b2.getLsbD bit then 2 else 0)

/-- `TilePixel(map, row, col, unsignedMode)` (R507–R509). -/
def State.tilePixel (s : State) (map : Word) (row col : Nat) (unsignedMode : Bool) : Shade :=
  let idx := s.rawRead (map + BitVec.ofNat 16 (row / 8 * 32 + col / 8))
  let a := tileAddr idx unsignedMode + BitVec.ofNat 16 (2 * (row % 8))
  colourIndex (s.rawRead a) (s.rawRead (a + 1)) (7 - col % 8)

/-- The shade of a colour index in a palette byte (R62, R510). -/
def paletteShade (palette : Byte) (ci : Shade) : Shade := (palette >>> (2 * ci.toNat)).truncate 2

/-- The tile map an LCDC bit selects (R507). -/
def tileMap (selected : Bool) : Word := if selected then 0x9C00 else 0x9800

/-- One pixel of the background and window pass: its colour index, its shade, whether it came from the window. -/
structure Pixel where
  index : Shade
  shade : Shade
  fromWindow : Bool
  deriving DecidableEq, Repr

/-- `WindowAt` (R504): the comparison `x >= wx - 7` on signed integers is `wx <= x + 7`. -/
def windowAt (lcdc : Byte) (ly x wy wx : Nat) : Bool :=
  lcdc.getLsbD 5 && decide (wy ≤ ly) && decide (wx ≤ x + 7)

/-- One pixel of line `ly` (R503–R510, R512). -/
def State.backgroundPixel (s : State) (ly x : Nat) : Pixel :=
  let lcdc := s.rawRead 0xFF40
  let wy := (s.rawRead 0xFF4A).toNat
  let wx := (s.rawRead 0xFF4B).toNat
  if s.config.bgEnableGates && !lcdc.getLsbD 0 then ⟨0, 0, false⟩
  else if windowAt lcdc ly x wy wx then
    let ci := s.tilePixel (tileMap (lcdc.getLsbD 6)) s.windowLine (x + 7 - wx) (lcdc.getLsbD 4)
    ⟨ci, paletteShade (s.rawRead 0xFF47) ci, true⟩
  else
    let row := (ly + (s.rawRead 0xFF42).toNat) % 256
    let col := (x + (s.rawRead 0xFF43).toNat) % 256
    let ci := s.tilePixel (tileMap (lcdc.getLsbD 3)) row col (lcdc.getLsbD 4)
    ⟨ci, paletteShade (s.rawRead 0xFF47) ci, false⟩

/-- The background and window pass over the 160 pixels of line `ly` (R503, R511, R513). -/
def State.renderBackground (s : State) (ly : Nat) : State :=
  let pixels := (List.range 160).map (s.backgroundPixel ly)
  { s with
    bgIndex := s.bgIndex.set ly (pixels.map Pixel.index)
    back := s.back.set ly (pixels.map Pixel.shade)
    windowLine := if pixels.any Pixel.fromWindow then s.windowLine + 1 else s.windowLine }

/-! ## Objects -/

/-- Byte `k` of OAM entry `n` (R514). -/
def State.oam (s : State) (n k : Nat) : Byte := s.rawRead (0xFE00 + BitVec.ofNat 16 (4 * n + k))

/-- `ObjHeight()` (R515). -/
def State.objHeight (s : State) : Nat := if (s.rawRead 0xFF40).getLsbD 2 then 16 else 8

/-- `VerticalSelect(ly, h)`: the first ten entries in OAM order that are on the line (R516). -/
def State.verticalSelect (s : State) (ly h : Nat) : List Nat :=
  ((List.range 40).filter
    (fun n => decide ((s.oam n 0).toNat ≤ ly + 16) && decide (ly + 16 < (s.oam n 0).toNat + h))).take 10

/-- The horizontal filter: `0 < X < 168` (R517). -/
def State.onScreen (s : State) (n : Nat) : Bool := decide (0 < (s.oam n 1).toNat) && decide ((s.oam n 1).toNat < 168)

/-- Whether entry `m` is drawn before entry `n`: its key `(X, n)` is higher (R518). -/
def State.drawnBefore (s : State) (m n : Nat) : Bool :=
  decide ((s.oam n 1).toNat < (s.oam m 1).toNat) || ((s.oam m 1 == s.oam n 1) && decide (n < m))

/-- An entry put into a list that is sorted by drawing order. -/
def State.insertDrawn (s : State) (n : Nat) : List Nat → List Nat
  | [] => [n]
  | m :: rest => if s.drawnBefore n m then n :: m :: rest else m :: s.insertDrawn n rest

/-- `DrawOrder(vis)`: descending by `(X(n), n)`, so that the last drawn has the highest priority (R518). -/
def State.drawOrder (s : State) (vis : List Nat) : List Nat := vis.foldr s.insertDrawn []

/-- One column of an object on a line (R519–R521). -/
def drawColumn (bgLine : Line) (b1 b2 attr pal : Byte) (xo : Nat) (line : Line) (c : Nat) : Line :=
  if xo + c < 8 ∨ xo + c - 8 > 159 then line
  else
    let sx := xo + c - 8
    let ci := colourIndex b1 b2 (if attr.getLsbD 5 then c else 7 - c)
    if ci = 0 then line
    else if attr.getLsbD 7 ∧ bgLine.getD sx 0 ≠ 0 then line
    else line.set sx (paletteShade pal ci)

/-- `DrawObject(n, ly, h)` on the line being drawn (R519). -/
def State.drawObject (s : State) (ly h : Nat) (bgLine : Line) (line : Line) (n : Nat) : Line :=
  let y := (s.oam n 0).toNat
  let tile := s.oam n 2
  let attr := s.oam n 3
  let top := ly + 16 - y
  let r := if attr.getLsbD 6 then h - 1 - top else top
  let t := if h = 16 then tile &&& 0xFE else tile
  let a : Word := 0x8000 + BitVec.ofNat 16 (t.toNat * 16 + 2 * r)
  let pal := if attr.getLsbD 4 then s.rawRead 0xFF49 else s.rawRead 0xFF48
  (List.range 8).foldl (drawColumn bgLine (s.rawRead a) (s.rawRead (a + 1)) attr pal (s.oam n 1).toNat) line

/-- `RenderObjects(ly)` (R514–R522). -/
def State.renderObjects (s : State) (ly : Nat) : State :=
  if s.config.objEnableGates && !(s.rawRead 0xFF40).getLsbD 1 then s
  else
    let h := s.objHeight
    let drawn := s.drawOrder ((s.verticalSelect ly h).filter s.onScreen)
    let line := drawn.foldl (s.drawObject ly h (s.bgIndex.getD ly [])) (s.back.getD ly [])
    { s with back := s.back.set ly line }

/-- `RenderScanline(ly)`: the whole line at once (R498, R503). -/
def State.renderScanline (s : State) (ly : Nat) : State := (s.renderBackground ly).renderObjects ly

/-! ## The tick -/

/-- What entering mode `m` on line `ly` does beyond STAT (R496, R498–R500). -/
def State.enterMode (s : State) (old m : PpuMode) (ly : Nat) : State :=
  match m with
  | .pixelTransfer => s.renderScanline ly
  | .vblank => s.vblankEntry
  | .oamSearch => if old = .vblank then s.newFrame else s
  | .hblank => s

/-- `Transition(old, m, ly)` (R496). -/
def State.transition (s : State) (old m : PpuMode) (ly : Nat) : State :=
  let shown := s.rawWrite 0xFF41 ((s.rawRead 0xFF41 &&& ~~~0x03#8) ||| m.code)
  (shown.statInterruptCheck m).enterMode old m ly

/-- A tick with the LCD on (R490): LY, coincidence, mode, the transition if the mode differs from STAT's, then one
iteration further in the frame (R501). DESIGN CHOICE, unsafe: the spec's decision D24 lists "advance" before LY is derived;
the position advances at the end, as R490, R501 and the vectors E9 have it (log entry 24). -/
def State.lcdOnTick (s : State) : State :=
  let ly := scanlineOf s.frameSync
  let m := modeOf ly (s.frameSync % dotsPerLine)
  let checked := (s.rawWrite 0xFF44 (BitVec.ofNat 8 ly)).coincidenceCheck
  let old := PpuMode.ofStat (checked.rawRead 0xFF41)
  let moved := if m ≠ old then checked.transition old m ly else checked
  { moved with frameSync := (s.frameSync + 4) % dotsPerFrame }

/-- `PpuTick()` (R490). LCDC bit 7 is the LCD enable (R491). -/
def State.ppuTick (s : State) : State := if (s.rawRead 0xFF40).getLsbD 7 then s.lcdOnTick else s.lcdOff

/-! ## The output -/

/-- The shade shown at column `x`, row `y` (R50, R523). -/
def State.shownShade (s : State) (x y : Nat) : Shade := (s.front.getD y []).getD x 0

/-- Pixel `(x, y)` of the readable RGBA buffer (R523). -/
def State.rgbaPixel (s : State) (x y : Nat) : BitVec 32 := Config.shadeColor (s.shownShade x y)

end Sys2Proof.Machine
end

