-- ==== Sys2Proof/Machine/Reset.lean ====
section
/-! DEFINITION. Loading a cartridge, power-on and explicit reset (R128, R550–R554). -/

namespace Sys2Proof.Machine

/-- The bytes of a ROM image copied into the array from an address on, at most up to 0x7FFF (R128, D13). -/
def Memory.loadFrom : List Byte → Nat → Memory → Memory
  | [], _, m => m
  | v :: rom, a, m => if a < 0x8000 then Memory.loadFrom rom (a + 1) (Memory.write m a v) else m

/-- `LoadCartridge(rom)`: "shorter than the minimum header-parseable length" (0x150 bytes) aborts (R128, R554). -/
def loadCartridge (rom : List Byte) (m : Memory) : Except Fault Memory :=
  if rom.length < 0x150 then .error .invalidCartridgeSize else .ok (Memory.loadFrom rom 0 m)

/-- F after the header-checksum quirk: Z is set, Hf and Cy as the byte at 0x014D is nonzero (R552). -/
def resetF (m : Memory) : Byte := if Memory.read m 0x014D ≠ 0 then 0xB0 else 0x80

/-- The reset state over an array with the cartridge loaded: every other piece of state as R550 lists it. -/
def resetOver (config : Config) (m : Memory) : State :=
  { State.reset with f := resetF m, mem := m, config := config }

/-- `Reset(rom)` at power-on (R550). -/
def powerOn (config : Config) (rom : List Byte) : Result :=
  match loadCartridge rom config.initMem with
  | .ok m => .next (resetOver config m)
  | .error x => .fault x

/-- The array as it was after `LoadCartridge`: the ROM area, which nothing writes (R114), over `InitMem`. -/
def State.bootMemory (s : State) : Memory :=
  s.mem.filter (fun cell => cell.1 < 0x8000) ++ s.config.initMem.filter (fun cell => 0x8000 ≤ cell.1)

/-- An explicit reset: "the same sequence with the same cartridge" (R550, D11). The joypad inputs and what the outside
is going to do are not the block's to reset (R51). DEDUCED, safe: the ROM area stands for the cartridge (log entry 13). -/
def State.explicitReset (s : State) : State :=
  { resetOver s.config s.bootMemory with joyAction := s.joyAction, joyDpad := s.joyDpad, inputs := s.inputs }

end Sys2Proof.Machine
end

