-- ==== Sys2Proof/Machine/Engine.lean ====
section
/-! DEFINITION. The CPU engine and the system iteration: fetch, the cycle gate, the slots and their order, the interrupt
poll, the host between iterations (R410–R431, R457). -/

namespace Sys2Proof.Machine

/-! ## Fetching an instruction (R413–R416) -/

/-- The instruction at PC, and the state with PC past it: the opcode, the extended opcode after a prefix, or the operand
bytes the descriptor asks for, each through the bus. -/
def State.fetchInstr (s : State) : Instr × State :=
  let (op, s1) := s.fetch8
  if op = prefixByte then
    let (op2, s2) := s1.fetch8
    (extInstr op2, s2)
  else
    match stdSlot op with
    | .whole i => (i, s1)
    | .byte f =>
      let (n, s2) := s1.fetch8
      (f n, s2)
    | .word f =>
      let (lo, s2) := s1.fetch8
      let (hi, s3) := s2.fetch8
      (f (wordOf hi lo), s3)

/-- `ExecuteOne()`: the latch is cleared, an instruction fetched and its operation invoked (R413). -/
def State.executeOne (s : State) : Result :=
  let fetched := ({ s with eiLatch := false }).fetchInstr
  exec fetched.1 fetched.2

/-- `IdleTick()`: HALTED and STOPPED execute nothing (R419). -/
def State.idleTick (s : State) : State := if s.config.haltCycleSync then s.charge 4 else s

/-- `CpuTick()` (R411): nothing in PANIC, nothing while the CPU is ahead of the master count (R412). -/
def State.cpuTick (s : State) : Result :=
  if s.run = .panic then .next s
  else if s.master < s.cpuCycles then .next s
  else if s.run = .running then s.executeOne
  else .next s.idleTick

/-! ## The other slots -/

/-- `MmuTick()` (R118, R422). -/
def State.mmuTick (s : State) : State :=
  if 0 < s.dmaCountdown then { s with dmaCountdown := s.dmaCountdown - 4 } else s

/-- A raw write that the environment may make or not. -/
def State.rawWriteIfSome (s : State) (a : Word) (v : Option Byte) : State :=
  match v with
  | some v => s.rawWrite a v
  | none => s

/-- `setIF(i)` if the environment raises source `i`. -/
def State.setIfWhen (s : State) (raised : Bool) (i : Nat) : State := if raised then s.setIf i else s

/-- `EnvTimerSlot()` (R421). -/
def State.envTimerSlot (s : State) (d : TimerDraw) : State :=
  ((((s.rawWriteIfSome 0xFF04 d.div).rawWriteIfSome 0xFF05 d.tima).setIfWhen d.timerIrq 2).setIfWhen d.serialIrq 3).setIfWhen
    d.joypadIrq 4

/-- One raw write to a sound register, by its offset from 0xFF10. -/
def State.writeSound (s : State) (w : Fin 48 × Byte) : State := s.rawWrite (0xFF10 + BitVec.ofNat 16 w.1.val) w.2

/-- `EnvApuSlot()` (R424). -/
def State.envApuSlot (s : State) (d : ApuDraw) : State :=
  let written := d.sound.foldl State.writeSound s
  { written with lengthTimer := d.lengths.getD s.lengthTimer }

/-- The source the poll dispatches: the lowest bit set in both IE and IF (R457, R458). -/
def firstRequest (ie iff : Byte) : Option Nat := [0, 1, 2, 3, 4].find? (fun i => ie.getLsbD i && iff.getLsbD i)

/-- `Poll()` (R457). -/
def State.poll (s : State) : State :=
  if s.run = .panic then s
  else if s.eiLatch then s
  else if !s.ime then s
  else
    match firstRequest (s.rawRead 0xFFFF) (s.rawRead 0xFF0F) with
    | some i => s.takeInterrupt i
    | none => s

/-! ## The host, and the iteration -/

/-- No opposing directions pressed: 0 is pressed, bits 0 Right, 1 Left, 2 Up, 3 Down (R51, R428). -/
def dpadValid (dpad : Byte) : Bool :=
  (dpad.getLsbD 0 || dpad.getLsbD 1) && (dpad.getLsbD 2 || dpad.getLsbD 3)

/-- The host's reset request (R428). -/
def State.hostReset (s : State) (requested : Bool) : State := if requested then s.explicitReset else s

/-- The host's joypad values; a violating input has no move (R428, D38). -/
def State.hostJoypad (s : State) (values : Option (Byte × Byte)) : Result :=
  match values with
  | none => .next s
  | some v => if dpadValid v.2 then .next { s with joyAction := v.1, joyDpad := v.2 } else .refused .opposingDirections

/-- What the host does between two iterations (R428). DESIGN CHOICE, safe: the reset first (log entry 18). -/
def State.hostSlot (s : State) (h : HostInput) : Result := (s.hostReset h.reset).hostJoypad h.joypad

/-- What the outside does in this iteration: the head of the queue, or nothing. -/
def State.input (s : State) : Input := s.inputs.headD {}

/-- The queue without its head. -/
def State.dropInput (s : State) : State := { s with inputs := s.inputs.tail }

/-- The iteration up to the CPU's slot: the host, then the Timer slot (R420, R428). -/
def State.beforeCpu (s : State) : Result :=
  (s.dropInput.hostSlot s.input.host).andThen (fun t => .next (t.envTimerSlot s.input.timer))

/-- The iteration after the CPU's slot: MMU, PPU, APU slot, poll, master count (R420, R426). -/
def State.afterCpu (s : State) (apu : ApuDraw) : State :=
  let polled := ((s.mmuTick.ppuTick).envApuSlot apu).poll
  { polled with master := polled.master + 4 }

/-- `Iteration()` (R420). -/
def State.iteration (s : State) : Result :=
  (s.beforeCpu.andThen State.cpuTick).andThen (fun t => .next (t.afterCpu s.input.apu))

/-! ## Placing an instruction for the host's questions -/

/-- Where the array holds the byte that a CPU read of `a` returns, outside the registers that compose their value. -/
def fetchHome (a : Word) : Word := if 0xE000#16 ≤ a ∧ a ≤ 0xFDFF#16 then mirrored a else a

/-- Bytes put where `fetch8` reads them from `a` on. -/
def State.placeFrom : List Byte → Word → State → State
  | [], _, s => s
  | v :: bytes, a, s => State.placeFrom bytes (a + 1) (s.rawWrite (fetchHome a) v)

/-- The next step's CPU slot is open and fetches: the CPU runs, is not ahead of the master count, no DMA window lies over
the three bytes at PC, and the host does nothing before the next iteration. -/
def State.readyToFetch (s : State) : State :=
  { s with
    run := .running
    panicInfo := if s.run = .panic then none else s.panicInfo
    cpuCycles := min s.cpuCycles s.master
    dmaCountdown := if s.blocked s.pc || s.blocked (s.pc + 1) || s.blocked (s.pc + 2) then 0 else s.dmaCountdown
    inputs := match s.inputs with
      | [] => []
      | x :: rest => { x with host := {} } :: rest }

/-- The bytes of the table's word, with zeros up to the longest instruction (3 bytes), at PC. -/
def State.placeWord (s : State) (nbits w : Nat) : State :=
  let bytes := tableBytes nbits w
  State.placeFrom (bytes ++ List.replicate (3 - bytes.length) 0) s.pc s.readyToFetch

end Sys2Proof.Machine
end

