-- ==== Sys2Proof/Machine/Step.lean ====
section
/-! DEFINITION. One step of the machine: one iteration of the driving loop, 4 T-cycles (R420, R431). -/

namespace Sys2Proof.Machine

/-- One iteration. DEDUCED, safe: it is the step of R431 (log entry 12). -/
def step (s : State) : Host.Outcome State Fault Refusal := s.iteration

/-- The state with the table's word placed where the next step fetches. DESIGN CHOICE, safe (log entry 15). -/
def State.withFetchWord (s : State) (nbits w : Nat) : State := s.placeWord nbits w

end Sys2Proof.Machine
end

