-- ==== Sys2Proof/Machine/Driver.lean ====
section
/-! DEFINITION. The driver: iterations under what the outside does, its frame, and the run from power-on to one of its ends
(R427, R429, R431). -/

namespace Sys2Proof.Machine

/-- The state with another queue of what the outside will do. -/
def State.queued (s : State) (q : List Input) : State := { s with inputs := q }

/-- `n` iterations with what the state's own queue says, and an idle outside after it; it stops where a step has no move. -/
def iterate : Nat → State → Result
  | 0, s => .next s
  | n + 1, s => Result.andThen (step s) (iterate n)

/-- What the outside does in each iteration, without end: the environment's draws and the host's inputs (R421, R424, R428). -/
abbrev Outside := Nat → Input

/-- One iteration as "a function of the state, the two environment draws ... and the host inputs" (R431). -/
def stepGiven (x : Input) (s : State) : Result := step (s.queued [x])

/-- `n` iterations under what the outside does; it stops where a step has no move. -/
def iterateUnder (outside : Outside) : Nat → State → Result
  | 0, s => .next s
  | n + 1, s => Result.andThen (iterateUnder outside n s) (stepGiven (outside n))

/-- Iterations of a driver frame: 70224 / 4 (R427). -/
def iterationsPerFrame : Nat := 17556

/-- What the outside does from iteration `n` on. -/
def Outside.after (outside : Outside) (n : Nat) : Outside := fun k => outside (n + k)

/-- What the driver sees at a frame boundary (R427, R429). -/
inductive FrameEnd where
  /-- The run goes on. -/
  | goesOn (s : State)
  /-- PANIC is observed: the driver stops, with the report. -/
  | panicked (info : Option PanicInfo) (s : State)
  /-- The host gave an input that has no move. -/
  | noMove
  deriving DecidableEq, Repr

/-- What the driver makes of a frame's iterations: it looks at the run state only after them (R427). -/
def frameEnd : Result → FrameEnd
  | .next t => if t.run = .panic then .panicked t.panicInfo t else .goesOn t
  | .fault _ => .noMove
  | .refused _ => .noMove

/-- One driver frame (R427). -/
def driverFrame (outside : Outside) (s : State) : FrameEnd := frameEnd (iterateUnder outside iterationsPerFrame s)

/-- How a run ends, with the state observed there (R429). -/
inductive RunEnd where
  /-- The cartridge was refused, and no iteration ran (R554). -/
  | notStarted (x : Fault)
  /-- The host switched the power off after the number of frames it chose. -/
  | stopped (s : State)
  /-- The driver observed PANIC at a frame boundary: "a fault, never a successful end". -/
  | panicked (info : Option PanicInfo) (s : State)
  /-- The host gave an input that has no move (R428). -/
  | noMove
  deriving DecidableEq, Repr

/-- What the run makes of a frame: it goes on with the rest of it, or ends (R429). -/
def FrameEnd.andThen : FrameEnd → (State → RunEnd) → RunEnd
  | .goesOn t, rest => rest t
  | .panicked info t, _ => .panicked info t
  | .noMove, _ => .noMove

/-- The driver's run from a state: at most the number of frames the host chooses, and no further than the first frame
boundary at which the state is PANIC (R427, R429). -/
def driverRun (outside : Outside) : Nat → State → RunEnd
  | 0, s => .stopped s
  | frames + 1, s => (driverFrame outside s).andThen (driverRun (outside.after iterationsPerFrame) frames)

/-- A run (R429): power-on with a cartridge (R550), then the driver's frames under what the outside does. -/
def runFromPowerOn (config : Config) (rom : List Byte) (outside : Outside) (frames : Nat) : RunEnd :=
  match powerOn config rom with
  | .next s => driverRun outside frames s
  | .fault x => .notStarted x
  | .refused _ => .noMove

/-- The third way of R429, "neither ever happens": under what the outside does without end, the driver goes on whatever
number of frames is run. -/
def State.NonTerminating (outside : Outside) (s : State) : Prop := ∀ frames, ∃ t, driverRun outside frames s = .stopped t

end Sys2Proof.Machine
end

