-- ==== Sys2Proof/Safety.lean ====
section
/-! DEFINITION. The terms in which claims about the machine are stated, written from the spec's tables and in its numbers:
the codes of the operand fields, the byte of F made of four flags, which bytes of the array a CPU write reaches, and the
invariant that every step keeps. -/

namespace Sys2Proof

/-! ## The codes of the operand fields (R153–R157, R161, R163, R164) -/

/-- `r8[c]` (R153). -/
def Reg8.code : Reg8 → Nat
  | .b => 0
  | .c => 1
  | .d => 2
  | .e => 3
  | .h => 4
  | .l => 5
  | .a => 7

/-- `r8[c]`, where code 6 is the byte at HL (R153). -/
def Operand8.code : Operand8 → Nat
  | .reg r => r.code
  | .atHl => 6

/-- `r16[p]` (R154). -/
def Reg16.code : Reg16 → Nat
  | .bc => 0
  | .de => 1
  | .hl => 2
  | .sp => 3

/-- `r16stk[p]` (R155). -/
def StackReg.code : StackReg → Nat
  | .bc => 0
  | .de => 1
  | .hl => 2
  | .af => 3

/-- `cc[c]` (R157). -/
def Cond.code : Cond → Nat
  | .nz => 0
  | .z => 1
  | .nc => 2
  | .c => 3

/-- The field `y` of the ALU operations (R161). -/
def AluOp.code : AluOp → Nat
  | .add => 0
  | .adc => 1
  | .sub => 2
  | .sbc => 3
  | .and => 4
  | .xor => 5
  | .or => 6
  | .cp => 7

/-- The field `y` of the CB shifts and rotates (R163, R324). -/
def ShiftOp.code : ShiftOp → Nat
  | .rlc => 0
  | .rrc => 1
  | .rl => 2
  | .rr => 3
  | .sla => 4
  | .sra => 5
  | .swap => 6
  | .srl => 7

/-- The byte of an unused opcode (R164). -/
def UnusedOpcode.byte : UnusedOpcode → Byte
  | .d3 => 0xD3
  | .db => 0xDB
  | .dd => 0xDD
  | .e3 => 0xE3
  | .e4 => 0xE4
  | .eb => 0xEB
  | .ec => 0xEC
  | .ed => 0xED
  | .f4 => 0xF4
  | .fc => 0xFC
  | .fd => 0xFD

/-- The byte of a number below 256. -/
def byteOf (n : Nat) : Byte := BitVec.ofNat 8 n

/-- Those bytes, with any bytes after them, are decoded as `i`, and exactly they are consumed. -/
def EncodedBy (bytes : List Byte) (i : Instr) : Prop := ∀ rest, decode (bytes ++ rest) = .ok (i, rest)

namespace Machine

/-! ## Flags (R33), and results in numbers (R9) -/

/-- The byte of F with bits 7, 6, 5, 4 as given and the low nibble 0 (R32, R33). -/
def flagByte (z n h c : Bool) : Byte :=
  BitVec.ofNat 8 (128 * z.toNat + 64 * n.toNat + 32 * h.toNat + 16 * c.toNat)

/-- `Z`. -/
def State.zeroFlag (s : State) : Bool := s.f.getLsbD 7
/-- `N`. -/
def State.subtractFlag (s : State) : Bool := s.f.getLsbD 6
/-- `Hf`. -/
def State.halfFlag (s : State) : Bool := s.f.getLsbD 5
/-- `Cy`. -/
def State.carryFlag (s : State) : Bool := s.f.getLsbD 4

/-- The table of R360: when a branch on `cc` is taken. -/
def State.taken (s : State) (cc : Cond) : Bool :=
  match cc with
  | .nz => s.zeroFlag == false
  | .z => s.zeroFlag == true
  | .nc => s.carryFlag == false
  | .c => s.carryFlag == true

/-- `add_a(v, cin)` in numbers (R260): the sum modulo 256, and the byte of F. -/
def sumOf (a v : Byte) (cin : Bool) : Byte × Byte :=
  let s := a.toNat + v.toNat + cin.toNat
  (byteOf (s % 256),
    flagByte (decide (s % 256 = 0)) false (decide (a.toNat % 16 + v.toNat % 16 + cin.toNat > 15)) (decide (s > 255)))

/-- `sub_a(v, cin, _)` in numbers (R261): the difference modulo 256, and the byte of F. -/
def differenceOf (a v : Byte) (cin : Bool) : Byte × Byte :=
  let d := (a.toNat + 512 - v.toNat - cin.toNat) % 256
  (byteOf d,
    flagByte (decide (d = 0)) true (decide (a.toNat % 16 < v.toNat % 16 + cin.toNat))
      (decide (a.toNat < v.toNat + cin.toNat)))

/-- The table of R324 in numbers: the result and the carry out of a CB shift or rotate. -/
def shiftTable (op : ShiftOp) (v : Byte) (cin : Bool) : Nat × Bool :=
  let n := v.toNat
  let low := n % 2
  let high := n / 128
  match op with
  | .rlc => (n * 2 % 256 + high, v.getLsbD 7)
  | .rrc => (n / 2 + 128 * low, v.getLsbD 0)
  | .rl => (n * 2 % 256 + cin.toNat, v.getLsbD 7)
  | .rr => (n / 2 + 128 * cin.toNat, v.getLsbD 0)
  | .sla => (n * 2 % 256, v.getLsbD 7)
  | .sra => (n / 2 + 128 * high, v.getLsbD 0)
  | .swap => (n % 16 * 16 + n / 16, false)
  | .srl => (n / 2, v.getLsbD 0)

/-! ## What a CPU write reaches (R103) -/

/-- Whether a CPU write of address `a` can change the byte of the array at `b`: nothing if it is dropped, the mirror of
an echo address, STAT beside LYC, OAM beside the DMA register, otherwise the byte itself. -/
def State.writeReaches (s : State) (a b : Word) : Bool :=
  if s.blocked a then false
  else if a = 0xFF46 then b == 0xFF46 || (0xFE00#16 ≤ b && b ≤ 0xFE9F#16)
  else if a = 0xFF45 then b == 0xFF45 || b == 0xFF41
  else if 0xE000#16 ≤ a && a ≤ 0xFDFF#16 then b == a - 0x2000
  else if 0xFEA0#16 ≤ a && a ≤ 0xFEFF#16 then false
  else if a ≤ 0x7FFF#16 then false
  else b == a

/-- Whether an address is that of NR11, NR21, NR31 or NR41 (R111). -/
def isLengthRegister (a : Word) : Bool := a == 0xFF11 || a == 0xFF16 || a == 0xFF1B || a == 0xFF20

/-- The parts a CPU write can touch are in `t` as in `u`. -/
def State.SameBus (t u : State) : Prop :=
  t.mem = u.mem ∧ t.dmaSource = u.dmaSource ∧ t.dmaCountdown = u.dmaCountdown ∧ t.lengthTimer = u.lengthTimer

/-- The registers and everything else are in `t` as in `r`, but for the parts a CPU write can touch: the array, the DMA
registers, the length timers. -/
def State.SameButBus (r t : State) : Prop :=
  t = { r with mem := t.mem, dmaSource := t.dmaSource, dmaCountdown := t.dmaCountdown, lengthTimer := t.lengthTimer }

/-- `t` is what one CPU write of `v` at `a` in `s` makes of the bus, and everything else is as in `r`. The bytes that the
write does not reach, the DMA registers (unless `a` is 0xFF46) and the length timers (unless `a` is NR11, NR21, NR31 or
NR41) are those of `s`. -/
structure State.WroteOnly (s : State) (a : Word) (v : Byte) (r t : State) : Prop where
  written : t.SameBus (s.memWrite a v)
  rest : r.SameButBus t
  bytes : ∀ b, s.writeReaches a b = false → t.rawRead b = s.rawRead b
  dma : a ≠ 0xFF46 → t.dmaSource = s.dmaSource ∧ t.dmaCountdown = s.dmaCountdown
  lengths : isLengthRegister a = false → t.lengthTimer = s.lengthTimer

/-- `t` is what two CPU writes in `s`, of `v` at `a` and then of `w` at `b`, make of the bus, and everything else is as in
`r`. What neither write reaches is that of `s`. -/
structure State.WroteBoth (s : State) (a : Word) (v : Byte) (b : Word) (w : Byte) (r t : State) : Prop where
  written : t.SameBus ((s.memWrite a v).memWrite b w)
  rest : r.SameButBus t
  bytes : ∀ x, s.writeReaches a x = false → (s.memWrite a v).writeReaches b x = false → t.rawRead x = s.rawRead x
  dma : a ≠ 0xFF46 → b ≠ 0xFF46 → t.dmaSource = s.dmaSource ∧ t.dmaCountdown = s.dmaCountdown
  lengths : isLengthRegister a = false → isLengthRegister b = false → t.lengthTimer = s.lengthTimer

/-- An address of plain memory for the CPU, in both directions: no case of R102 or R103 is its own (R115). -/
def isPlain (a : Word) : Bool :=
  (0x8000#16 ≤ a && a ≤ 0xDFFF#16) || (0xFE00#16 ≤ a && a ≤ 0xFE9F#16) ||
    (0xFF01#16 ≤ a && a != 0xFF04 && a != 0xFF41 && a != 0xFF45 && a != 0xFF46 && !isLengthRegister a)

/-- The CPU's access to an address is blocked by an OAM DMA transfer (R104): one is in progress, and the address lies in
its source range or in OAM. -/
def State.contended (s : State) (a : Word) : Prop :=
  0 < s.dmaCountdown ∧
    ((s.dmaSource.toNat * 256 ≤ a.toNat ∧ a.toNat ≤ s.dmaSource.toNat * 256 + 0x9F) ∨
      (0xFE00 ≤ a.toNat ∧ a.toNat ≤ 0xFE9F))

/-- Interrupt source `i` is enabled in IE and pending in IF (R456). -/
def State.requested (s : State) (i : Nat) : Prop :=
  (s.rawRead 0xFFFF).getLsbD i = true ∧ (s.rawRead 0xFF0F).getLsbD i = true

/-! ## The picture -/

/-- The mode that a position in the frame has, by its number (R492, R495). -/
def modeNumber (frameSync : Nat) : Nat :=
  let ly := frameSync / 456 % 154
  let line := frameSync % 456
  if 144 ≤ ly then 1 else if line < 80 then 2 else if line < 252 then 3 else 0

/-- Cell `(x, y)` of a frame. -/
def Frame.cell (frame : Frame) (x y : Nat) : Shade := (frame.getD y []).getD x 0

/-- The byte of the array at an address given as a number. -/
def State.byteAt (s : State) (a : Nat) : Byte := s.rawRead (BitVec.ofNat 16 a)

/-- Whether pixel `(x, ly)` comes from the window (R504, R512). -/
def State.fromWindow (s : State) (ly x : Nat) : Prop :=
  (s.config.bgEnableGates = true → (s.byteAt 0xFF40).getLsbD 0 = true) ∧ (s.byteAt 0xFF40).getLsbD 5 = true ∧
    (s.byteAt 0xFF4A).toNat ≤ ly ∧ ((s.byteAt 0xFF4B).toNat : Int) - 7 ≤ x

/-- `TilePixel` in numbers (R507–R509): the colour index of a map's row and column. -/
def State.tileColour (s : State) (map row col : Nat) (unsignedMode : Bool) : Nat :=
  let idx := (s.byteAt (map + row / 8 * 32 + col / 8)).toNat
  let tile := if unsignedMode then 0x8000 + idx * 16 else 0x8800 + (idx + 128) % 256 * 16
  let a := tile + 2 * (row % 8)
  ((s.byteAt a).getLsbD (7 - col % 8)).toNat + 2 * ((s.byteAt (a + 1)).getLsbD (7 - col % 8)).toNat

/-- An entry of OAM is on line `ly` for objects of height `h` (R516). -/
def State.onLine (s : State) (ly h n : Nat) : Prop :=
  (s.byteAt (0xFE00 + 4 * n)).toNat ≤ ly + 16 ∧ ly + 16 < (s.byteAt (0xFE00 + 4 * n)).toNat + h

/-- The X byte of an entry of OAM (R514). -/
def State.objX (s : State) (n : Nat) : Nat := (s.byteAt (0xFE01 + 4 * n)).toNat

/-! ## The invariant -/

/-- 144 lines of 160 cells (R49, R50). -/
def Frame.wf (frame : Frame) : Bool := frame.length == 144 && frame.all (fun line => line.length == 160)

/-- What holds of every state a step leads to. -/
structure State.Inv (s : State) : Prop where
  /-- Memory is in its canonical form. -/
  mem : Memory.wf s.mem = true
  /-- So is the parameter `InitMem`. -/
  initMem : Memory.wf s.config.initMem = true
  /-- "F's low nibble is always zero" (R32). -/
  f : s.f &&& 0x0F = 0
  /-- `frameSync` is one of 0, 4, 8, …, 70220 (R47, R501). -/
  frameSync : s.frameSync < 70224 ∧ s.frameSync % 4 = 0
  /-- `master` moves in quanta of 4 (R42, R426). -/
  master : s.master % 4 = 0
  /-- The DMA countdown is one of 0, 4, …, 640 (R45, R118). -/
  dma : 0 ≤ s.dmaCountdown ∧ s.dmaCountdown ≤ 640 ∧ s.dmaCountdown % 4 = 0
  bgIndex : Frame.wf s.bgIndex = true
  back : Frame.wf s.back = true
  front : Frame.wf s.front = true
  /-- A report is recorded exactly in PANIC (R43, R451). -/
  panic : s.run = .panic ↔ s.panicInfo.isSome
  /-- Opposing directions are never reported pressed (R51, R428). -/
  joypad : dpadValid s.joyDpad = true

end Machine

end Sys2Proof
end

