-- ==== Sys2Proof/Certificates/Slice0/Obligations.lean ====
section
/-! DEFINITION. The statements for the provers. Each says which rules of spec/ it formalises. `exec i s` runs `i` in a state
whose PC is already past the instruction (R11), so a result is stated of that state; `StepRunsTheDecodedInstruction` carries
it to a step. Where a next state is written as `s` with some fields changed, every other register, flag, special register
and byte of memory is unchanged. -/

open Sys2Proof Sys2Proof.Machine

/-! ## Encoding -/

/-- Every whole instruction, with every operand at every value, is what the decoder reads from its own bytes, whatever
follows them (R150, R166, R168). -/
def Obligations.DecodeOfEncodeIsIdentity : Prop :=
  ∀ (i : Instr) (rest : List Byte), i.wellFormed = true → decode (encode i ++ rest) = .ok (i, rest)

/-- The other direction: the bytes that decode to an instruction are that instruction's bytes, so no two encodings mean one
instruction and no bit of an encoding is ignored (R150, R165, R168). -/
def Obligations.DecodedBytesAreTheEncoding : Prop :=
  ∀ (bytes : List Byte) (i : Instr) (rest : List Byte), decode bytes = .ok (i, rest) → bytes = encode i ++ rest

/-- Decoding is total, and the length, 1 to 3 bytes, is learnt from the first byte alone; after the prefix it is 2 (R166). -/
def Obligations.FirstByteFixesTheLength : Prop :=
  ∀ op : Byte, ∃ n : Nat, 1 ≤ n ∧ n ≤ 3 ∧ (op = 0xCB → n = 2) ∧
    ∀ (b1 b2 : Byte) (rest : List Byte), ∃ i : Instr, i.wellFormed = true ∧
      decode (op :: b1 :: b2 :: rest) = .ok (i, (op :: b1 :: b2 :: rest).drop n)

/-- Words of the printed map (R168), one of each family. -/
def Obligations.DecodedWordsOfTheMap : Prop :=
  decodeWhole [0x41] = some .ldBC ∧ decodeWhole [0x06, 0x2A] = some (.ldBN8 0x2A) ∧
  decodeWhole [0xE2] = some .ldAtCA ∧ decodeWhole [0x08, 0x00, 0xC0] = some (.ldAtN16Sp 0xC000) ∧
  decodeWhole [0xF1] = some .popAf ∧ decodeWhole [0x96] = some .subAtHl ∧ decodeWhole [0xFE, 0x3C] = some (.cpN8 0x3C) ∧
  decodeWhole [0x35] = some .decAtHl ∧ decodeWhole [0x29] = some .addHlHl ∧ decodeWhole [0x1F] = some .rra ∧
  decodeWhole [0xCB, 0x37] = some .swapA ∧ decodeWhole [0xCB, 0xCB] = some .set1E ∧
  decodeWhole [0xCB, 0x7E] = some .bit7AtHl ∧ decodeWhole [0x18, 0xFE] = some (.jrE8 0xFE) ∧
  decodeWhole [0xC3, 0x50, 0x01] = some (.jpN16 0x0150) ∧ decodeWhole [0xEF] = some .rst28 ∧
  decodeWhole [0x76] = some .halt ∧ decodeWhole [0xD3] = some .unusedD3

/-! ## Registers -/

/-- A write of an 8-bit register is read back and touches no other register; a pair is its two registers, the first-named
the high byte, and writing AF masks F (R30, R31). -/
def Obligations.RegistersAndPairs : Prop :=
  ∀ (s : State) (v : Byte) (w : Word),
    (∀ r q : Reg8, (s.setReg8 r v).reg8 q = if q = r then v else s.reg8 q) ∧
    (∀ r : Reg8, s.setReg8 r v =
      { s with a := (s.setReg8 r v).a, b := (s.setReg8 r v).b, c := (s.setReg8 r v).c, d := (s.setReg8 r v).d,
               e := (s.setReg8 r v).e, h := (s.setReg8 r v).h, l := (s.setReg8 r v).l }) ∧
    (s.reg8 .a = s.a ∧ s.reg8 .b = s.b ∧ s.reg8 .c = s.c ∧ s.reg8 .d = s.d ∧ s.reg8 .e = s.e ∧ s.reg8 .h = s.h ∧
      s.reg8 .l = s.l ∧ (∀ r, s.operand8 (.reg r) = s.reg8 r) ∧ s.operand8 .atHl = s.memRead (wordOf s.h s.l)) ∧
    ((s.reg16 .bc).toNat = s.b.toNat * 256 + s.c.toNat ∧ (s.reg16 .de).toNat = s.d.toNat * 256 + s.e.toNat ∧
      (s.reg16 .hl).toNat = s.h.toNat * 256 + s.l.toNat ∧ s.reg16 .sp = s.sp ∧
      (s.stackReg .af).toNat = s.a.toNat * 256 + (s.f &&& 0xF0).toNat) ∧
    (s.setReg16 .bc w = { s with b := byteOf (w.toNat / 256), c := byteOf (w.toNat % 256) } ∧
      s.setReg16 .de w = { s with d := byteOf (w.toNat / 256), e := byteOf (w.toNat % 256) } ∧
      s.setReg16 .hl w = { s with h := byteOf (w.toNat / 256), l := byteOf (w.toNat % 256) } ∧
      s.setReg16 .sp w = { s with sp := w } ∧
      s.setStackReg .af w = { s with a := byteOf (w.toNat / 256), f := byteOf (w.toNat % 256) &&& 0xF0 }) ∧
    (∀ p, p ≠ StackReg.af →
      s.stackReg p = s.reg16 (match p with | .bc => .bc | .de => .de | .hl => .hl | .af => .hl))

/-- "Invariant: F's low nibble is always zero after any write": no instruction leaves a bit set there (R32). -/
def Obligations.InstructionsKeepLowNibbleOfFZero : Prop :=
  ∀ (i : Instr) (s t : State), s.f &&& 0x0F = 0 → exec i s = .next t → t.f &&& 0x0F = 0

/-! ## 8-bit loads -/

/-- `LD r,r'`, `LD r,n8`, `LD r,(HL)`: encoding, result, duration, and nothing else changed (R201–R203). -/
def Obligations.LoadRegister : Prop :=
  ∀ (dst : Reg8) (s : State),
    (∀ src : Reg8, EncodedBy [byteOf (0x40 + 8 * dst.code + src.code)] (Row.ldRegReg dst src) ∧
      exec (Row.ldRegReg dst src) s = .next { s.setReg8 dst (s.reg8 src) with cpuCycles := s.cpuCycles + 4 }) ∧
    (∀ n : Byte, EncodedBy [byteOf (0x06 + 8 * dst.code), n] (Row.ldRegN8 dst n) ∧
      exec (Row.ldRegN8 dst n) s = .next { s.setReg8 dst n with cpuCycles := s.cpuCycles + 8 }) ∧
    (EncodedBy [byteOf (0x46 + 8 * dst.code)] (Row.ldRegAtHl dst) ∧
      exec (Row.ldRegAtHl dst) s =
        .next { s.setReg8 dst (s.memRead (wordOf s.h s.l)) with cpuCycles := s.cpuCycles + 8 })

/-- `LD (HL),r`, `LD (HL),n8`: one CPU write at HL; no register changes, and no byte that the write does not reach
(R204, R205). -/
def Obligations.StoreAtHl : Prop :=
  ∀ s : State,
    (∀ src : Reg8, EncodedBy [byteOf (0x70 + src.code)] (Row.ldAtHlReg src) ∧
      ∃ t, exec (Row.ldAtHlReg src) s = .next t ∧
        s.WroteOnly (wordOf s.h s.l) (s.reg8 src) { s with cpuCycles := s.cpuCycles + 8 } t) ∧
    (∀ n : Byte, EncodedBy [0x36, n] (.ldAtHlN8 n) ∧
      ∃ t, exec (.ldAtHlN8 n) s = .next t ∧
        s.WroteOnly (wordOf s.h s.l) n { s with cpuCycles := s.cpuCycles + 12 } t)

/-- The loads of A from memory: through BC, DE, HL with what becomes of HL, an absolute address, and the two forms in high
memory (R206, R207, R210, R212, R214, R216, R217). -/
def Obligations.LoadAFromMemory : Prop :=
  ∀ s : State,
    (EncodedBy [0x0A] .ldAAtBc ∧
      exec .ldAAtBc s = .next { s with a := s.memRead (wordOf s.b s.c), cpuCycles := s.cpuCycles + 8 }) ∧
    (EncodedBy [0x1A] .ldAAtDe ∧
      exec .ldAAtDe s = .next { s with a := s.memRead (wordOf s.d s.e), cpuCycles := s.cpuCycles + 8 }) ∧
    (EncodedBy [0x2A] .ldAAtHlInc ∧
      exec .ldAAtHlInc s = .next { s with a := s.memRead (wordOf s.h s.l), h := hiByte (wordOf s.h s.l + 1),
                                          l := loByte (wordOf s.h s.l + 1), cpuCycles := s.cpuCycles + 8 }) ∧
    (EncodedBy [0x3A] .ldAAtHlDec ∧
      exec .ldAAtHlDec s = .next { s with a := s.memRead (wordOf s.h s.l), h := hiByte (wordOf s.h s.l - 1),
                                          l := loByte (wordOf s.h s.l - 1), cpuCycles := s.cpuCycles + 8 }) ∧
    (∀ n : Word, EncodedBy [0xFA, loByte n, hiByte n] (.ldAAtN16 n) ∧
      exec (.ldAAtN16 n) s = .next { s with a := s.memRead n, cpuCycles := s.cpuCycles + 16 }) ∧
    (∀ n : Byte, EncodedBy [0xF0, n] (.ldhAAtA8 n) ∧
      exec (.ldhAAtA8 n) s = .next { s with a := s.memRead (wordOf 0xFF n), cpuCycles := s.cpuCycles + 12 }) ∧
    (EncodedBy [0xF2] .ldAAtC ∧
      exec .ldAAtC s = .next { s with a := s.memRead (wordOf 0xFF s.c), cpuCycles := s.cpuCycles + 8 })

/-- The stores of A: one CPU write at the address the form gives, and what becomes of HL (R208, R209, R211, R213, R215,
R218, R219). -/
def Obligations.StoreAToMemory : Prop :=
  ∀ s : State,
    (EncodedBy [0x02] .ldAtBcA ∧ ∃ t, exec .ldAtBcA s = .next t ∧
      s.WroteOnly (wordOf s.b s.c) s.a { s with cpuCycles := s.cpuCycles + 8 } t) ∧
    (EncodedBy [0x12] .ldAtDeA ∧ ∃ t, exec .ldAtDeA s = .next t ∧
      s.WroteOnly (wordOf s.d s.e) s.a { s with cpuCycles := s.cpuCycles + 8 } t) ∧
    (EncodedBy [0x22] .ldAtHlIncA ∧ ∃ t, exec .ldAtHlIncA s = .next t ∧
      s.WroteOnly (wordOf s.h s.l) s.a
        { s with h := hiByte (wordOf s.h s.l + 1), l := loByte (wordOf s.h s.l + 1), cpuCycles := s.cpuCycles + 8 } t) ∧
    (EncodedBy [0x32] .ldAtHlDecA ∧ ∃ t, exec .ldAtHlDecA s = .next t ∧
      s.WroteOnly (wordOf s.h s.l) s.a
        { s with h := hiByte (wordOf s.h s.l - 1), l := loByte (wordOf s.h s.l - 1), cpuCycles := s.cpuCycles + 8 } t) ∧
    (∀ n : Word, EncodedBy [0xEA, loByte n, hiByte n] (.ldAtN16A n) ∧ ∃ t, exec (.ldAtN16A n) s = .next t ∧
      s.WroteOnly n s.a { s with cpuCycles := s.cpuCycles + 16 } t) ∧
    (∀ n : Byte, EncodedBy [0xE0, n] (.ldhAtA8A n) ∧ ∃ t, exec (.ldhAtA8A n) s = .next t ∧
      s.WroteOnly (wordOf 0xFF n) s.a { s with cpuCycles := s.cpuCycles + 12 } t) ∧
    (EncodedBy [0xE2] .ldAtCA ∧ ∃ t, exec .ldAtCA s = .next t ∧
      s.WroteOnly (wordOf 0xFF s.c) s.a { s with cpuCycles := s.cpuCycles + 8 } t)

/-! ## 16-bit loads and the stack -/

/-- `LD rr,n16`, `LD SP,HL`, `LD HL,SP+e8` with its flags from the low byte (R242, R244, R245). -/
def Obligations.LoadPair : Prop :=
  ∀ s : State,
    (∀ (p : Reg16) (n : Word), EncodedBy [byteOf (0x01 + 16 * p.code), loByte n, hiByte n] (Row.ldPairN16 p n) ∧
      exec (Row.ldPairN16 p n) s = .next { s.setReg16 p n with cpuCycles := s.cpuCycles + 12 }) ∧
    (EncodedBy [0xF9] .ldSpHl ∧
      exec .ldSpHl s = .next { s with sp := wordOf s.h s.l, cpuCycles := s.cpuCycles + 8 }) ∧
    (∀ e : Byte, EncodedBy [0xF8, e] (.ldHlSpE8 e) ∧
      exec (.ldHlSpE8 e) s =
        .next { s with
          h := hiByte (BitVec.ofInt 16 (s.sp.toNat + e.toInt))
          l := loByte (BitVec.ofInt 16 (s.sp.toNat + e.toInt))
          f := flagByte false false (decide (s.sp.toNat % 16 + e.toNat % 16 > 15))
            (decide (s.sp.toNat % 256 + e.toNat > 255))
          cpuCycles := s.cpuCycles + 12 })

/-- `LD (n16),SP`: the low byte at the address, then the high byte at the next one, modulo 65536 (R243). -/
def Obligations.StoreStackPointer : Prop :=
  ∀ (n : Word) (s : State),
    EncodedBy [0x08, loByte n, hiByte n] (.ldAtN16Sp n) ∧ ∃ t, exec (.ldAtN16Sp n) s = .next t ∧
      s.WroteBoth n (loByte s.sp) (n + 1) (hiByte s.sp) { s with cpuCycles := s.cpuCycles + 20 } t

/-- `PUSH rr`: SP two lower; the high byte at SP - 1, then the low byte at SP - 2, each through the bus (R240, R246). -/
def Obligations.PushWritesHighThenLow : Prop :=
  ∀ (p : StackReg) (s : State),
    EncodedBy [byteOf (0xC5 + 16 * p.code)] (Row.push p) ∧ ∃ t, exec (Row.push p) s = .next t ∧
      s.WroteBoth (s.sp - 1) (hiByte (s.stackReg p)) (s.sp - 2) (loByte (s.stackReg p))
        { s with sp := s.sp - 2, cpuCycles := s.cpuCycles + 16 } t

/-- `POP rr` and `POP AF`: the low byte from SP, the high byte from SP + 1, SP two higher; F is masked (R241, R247, R248). -/
def Obligations.PopReadsLowThenHigh : Prop :=
  ∀ s : State,
    (EncodedBy [0xC1] .popBc ∧ exec .popBc s =
      .next { s with b := s.memRead (s.sp + 1), c := s.memRead s.sp, sp := s.sp + 2, cpuCycles := s.cpuCycles + 12 }) ∧
    (EncodedBy [0xD1] .popDe ∧ exec .popDe s =
      .next { s with d := s.memRead (s.sp + 1), e := s.memRead s.sp, sp := s.sp + 2, cpuCycles := s.cpuCycles + 12 }) ∧
    (EncodedBy [0xE1] .popHl ∧ exec .popHl s =
      .next { s with h := s.memRead (s.sp + 1), l := s.memRead s.sp, sp := s.sp + 2, cpuCycles := s.cpuCycles + 12 }) ∧
    (EncodedBy [0xF1] .popAf ∧ exec .popAf s =
      .next { s with a := s.memRead (s.sp + 1), f := s.memRead s.sp &&& 0xF0, sp := s.sp + 2,
                     cpuCycles := s.cpuCycles + 12 })

/-- A push followed by a pop gives the value back and SP as it was, whenever the two stack bytes are plain memory that no
transfer blocks; a popped AF has its low nibble masked (R241's property, which the spec marks as derived for plain RAM). -/
def Obligations.PopAfterPushReturnsTheValue : Prop :=
  ∀ (p q : StackReg) (s : State),
    isPlain (s.sp - 1) = true → isPlain (s.sp - 2) = true → ¬ s.contended (s.sp - 1) → ¬ s.contended (s.sp - 2) →
    ∃ t u, exec (Row.push p) s = .next t ∧ exec (Row.pop q) t = .next u ∧ u.sp = s.sp ∧
      u.stackReg q = if q = .af then s.stackReg p &&& 0xFFF0 else s.stackReg p

/-! ## 8-bit arithmetic and logic -/

/-- `ADD` and `ADC` with a register, the byte at HL, or n8 (R260, R263–R268). -/
def Obligations.AddAndAddWithCarry : Prop :=
  ∀ s : State,
    (∀ o : Operand8, EncodedBy [byteOf (0x80 + o.code)] (Row.alu .add o) ∧
      exec (Row.alu .add o) s =
        .next { s with a := (sumOf s.a (s.operand8 o) false).1, f := (sumOf s.a (s.operand8 o) false).2,
                       cpuCycles := s.cpuCycles + (if o = .atHl then 8 else 4) }) ∧
    (∀ n : Byte, EncodedBy [0xC6, n] (.addAN8 n) ∧
      exec (.addAN8 n) s =
        .next { s with a := (sumOf s.a n false).1, f := (sumOf s.a n false).2, cpuCycles := s.cpuCycles + 8 }) ∧
    (∀ o : Operand8, EncodedBy [byteOf (0x88 + o.code)] (Row.alu .adc o) ∧
      exec (Row.alu .adc o) s =
        .next { s with a := (sumOf s.a (s.operand8 o) s.carryFlag).1, f := (sumOf s.a (s.operand8 o) s.carryFlag).2,
                       cpuCycles := s.cpuCycles + (if o = .atHl then 8 else 4) }) ∧
    (∀ n : Byte, EncodedBy [0xCE, n] (.adcAN8 n) ∧
      exec (.adcAN8 n) s =
        .next { s with a := (sumOf s.a n s.carryFlag).1, f := (sumOf s.a n s.carryFlag).2,
                       cpuCycles := s.cpuCycles + 8 })

/-- `SUB`, `SBC` and `CP` with a register, the byte at HL, or n8; CP keeps A (R261, R269–R274, R284–R286). -/
def Obligations.SubtractAndCompare : Prop :=
  ∀ s : State,
    (∀ o : Operand8, EncodedBy [byteOf (0x90 + o.code)] (Row.alu .sub o) ∧
      exec (Row.alu .sub o) s =
        .next { s with a := (differenceOf s.a (s.operand8 o) false).1, f := (differenceOf s.a (s.operand8 o) false).2,
                       cpuCycles := s.cpuCycles + (if o = .atHl then 8 else 4) }) ∧
    (∀ n : Byte, EncodedBy [0xD6, n] (.subN8 n) ∧
      exec (.subN8 n) s =
        .next { s with a := (differenceOf s.a n false).1, f := (differenceOf s.a n false).2,
                       cpuCycles := s.cpuCycles + 8 }) ∧
    (∀ o : Operand8, EncodedBy [byteOf (0x98 + o.code)] (Row.alu .sbc o) ∧
      exec (Row.alu .sbc o) s =
        .next { s with a := (differenceOf s.a (s.operand8 o) s.carryFlag).1,
                       f := (differenceOf s.a (s.operand8 o) s.carryFlag).2,
                       cpuCycles := s.cpuCycles + (if o = .atHl then 8 else 4) }) ∧
    (∀ n : Byte, EncodedBy [0xDE, n] (.sbcAN8 n) ∧
      exec (.sbcAN8 n) s =
        .next { s with a := (differenceOf s.a n s.carryFlag).1, f := (differenceOf s.a n s.carryFlag).2,
                       cpuCycles := s.cpuCycles + 8 }) ∧
    (∀ o : Operand8, EncodedBy [byteOf (0xB8 + o.code)] (Row.alu .cp o) ∧
      exec (Row.alu .cp o) s =
        .next { s with f := (differenceOf s.a (s.operand8 o) false).2,
                       cpuCycles := s.cpuCycles + (if o = .atHl then 8 else 4) }) ∧
    (∀ n : Byte, EncodedBy [0xFE, n] (.cpN8 n) ∧
      exec (.cpN8 n) s = .next { s with f := (differenceOf s.a n false).2, cpuCycles := s.cpuCycles + 8 })

/-- `AND`, `XOR` and `OR` with a register, the byte at HL, or n8 (R262, R275–R283). -/
def Obligations.AndXorOr : Prop :=
  ∀ s : State,
    (∀ o : Operand8, EncodedBy [byteOf (0xA0 + o.code)] (Row.alu .and o) ∧
      exec (Row.alu .and o) s =
        .next { s with a := s.a &&& s.operand8 o, f := flagByte (decide (s.a &&& s.operand8 o = 0)) false true false,
                       cpuCycles := s.cpuCycles + (if o = .atHl then 8 else 4) }) ∧
    (∀ n : Byte, EncodedBy [0xE6, n] (.andN8 n) ∧
      exec (.andN8 n) s =
        .next { s with a := s.a &&& n, f := flagByte (decide (s.a &&& n = 0)) false true false,
                       cpuCycles := s.cpuCycles + 8 }) ∧
    (∀ o : Operand8, EncodedBy [byteOf (0xA8 + o.code)] (Row.alu .xor o) ∧
      exec (Row.alu .xor o) s =
        .next { s with a := s.a ^^^ s.operand8 o, f := flagByte (decide (s.a ^^^ s.operand8 o = 0)) false false false,
                       cpuCycles := s.cpuCycles + (if o = .atHl then 8 else 4) }) ∧
    (∀ n : Byte, EncodedBy [0xEE, n] (.xorN8 n) ∧
      exec (.xorN8 n) s =
        .next { s with a := s.a ^^^ n, f := flagByte (decide (s.a ^^^ n = 0)) false false false,
                       cpuCycles := s.cpuCycles + 8 }) ∧
    (∀ o : Operand8, EncodedBy [byteOf (0xB0 + o.code)] (Row.alu .or o) ∧
      exec (Row.alu .or o) s =
        .next { s with a := s.a ||| s.operand8 o, f := flagByte (decide (s.a ||| s.operand8 o = 0)) false false false,
                       cpuCycles := s.cpuCycles + (if o = .atHl then 8 else 4) }) ∧
    (∀ n : Byte, EncodedBy [0xF6, n] (.orN8 n) ∧
      exec (.orN8 n) s =
        .next { s with a := s.a ||| n, f := flagByte (decide (s.a ||| n = 0)) false false false,
                       cpuCycles := s.cpuCycles + 8 })

/-- `INC` and `DEC` of a register or the byte at HL: wrapping, Z, N and Hf from the operation, Cy untouched (R287–R290). -/
def Obligations.IncrementAndDecrementBytes : Prop :=
  ∀ s : State,
    (∀ r : Reg8, EncodedBy [byteOf (0x04 + 8 * r.code)] (Row.inc8 (.reg r)) ∧
      exec (Row.inc8 (.reg r)) s =
        .next { s.setReg8 r (byteOf ((s.reg8 r).toNat + 1)) with
          f := flagByte (decide ((s.reg8 r).toNat = 255)) false (decide ((s.reg8 r).toNat % 16 = 15)) s.carryFlag
          cpuCycles := s.cpuCycles + 4 }) ∧
    (EncodedBy [0x34] .incAtHl ∧ ∃ t, exec .incAtHl s = .next t ∧
      s.WroteOnly (wordOf s.h s.l) (byteOf ((s.memRead (wordOf s.h s.l)).toNat + 1))
        { s with
          f := flagByte (decide ((s.memRead (wordOf s.h s.l)).toNat = 255)) false
            (decide ((s.memRead (wordOf s.h s.l)).toNat % 16 = 15)) s.carryFlag
          cpuCycles := s.cpuCycles + 12 } t) ∧
    (∀ r : Reg8, EncodedBy [byteOf (0x05 + 8 * r.code)] (Row.dec8 (.reg r)) ∧
      exec (Row.dec8 (.reg r)) s =
        .next { s.setReg8 r (byteOf ((s.reg8 r).toNat + 255)) with
          f := flagByte (decide ((s.reg8 r).toNat = 1)) true (decide ((s.reg8 r).toNat % 16 = 0)) s.carryFlag
          cpuCycles := s.cpuCycles + 4 }) ∧
    (EncodedBy [0x35] .decAtHl ∧ ∃ t, exec .decAtHl s = .next t ∧
      s.WroteOnly (wordOf s.h s.l) (byteOf ((s.memRead (wordOf s.h s.l)).toNat + 255))
        { s with
          f := flagByte (decide ((s.memRead (wordOf s.h s.l)).toNat = 1)) true
            (decide ((s.memRead (wordOf s.h s.l)).toNat % 16 = 0)) s.carryFlag
          cpuCycles := s.cpuCycles + 12 } t)

/-- `DAA`: the algorithm of R291 in numbers; N is unchanged and Hf cleared. -/
def Obligations.DecimalAdjustAlgorithm : Prop :=
  ∀ s : State,
    EncodedBy [0x27] .daa ∧
    exec .daa s =
      if s.subtractFlag then
        .next { s with
          a := byteOf (s.a.toNat + 512 - 0x60 * s.carryFlag.toNat - 0x06 * s.halfFlag.toNat)
          f := flagByte
            (decide ((s.a.toNat + 512 - 0x60 * s.carryFlag.toNat - 0x06 * s.halfFlag.toNat) % 256 = 0)) true false
            s.carryFlag
          cpuCycles := s.cpuCycles + 4 }
      else
        let high : Bool := s.carryFlag || decide (s.a.toNat > 0x99)
        let low : Bool := s.halfFlag || decide (s.a.toNat % 16 > 9)
        .next { s with
          a := byteOf (s.a.toNat + 0x60 * high.toNat + 0x06 * low.toNat)
          f := flagByte (decide ((s.a.toNat + 0x60 * high.toNat + 0x06 * low.toNat) % 256 = 0)) false false high
          cpuCycles := s.cpuCycles + 4 }

/-- What DAA is for: after `ADD A,n8` or `SUB n8` on two numbers in packed decimal, it leaves the decimal sum or difference
modulo 100, with the decimal carry or borrow in Cy and Z for zero (a consequence of R260, R261 and R291, not a sentence of
the spec). -/
def Obligations.DecimalArithmeticIsExact : Prop :=
  ∀ (s : State) (x y : Nat), x < 100 → y < 100 → s.a = byteOf (x / 10 * 16 + x % 10) →
    (∃ t u, exec (.addAN8 (byteOf (y / 10 * 16 + y % 10))) s = .next t ∧ exec .daa t = .next u ∧
      u.a = byteOf ((x + y) % 100 / 10 * 16 + (x + y) % 10) ∧ u.carryFlag = decide (100 ≤ x + y) ∧
      u.zeroFlag = decide ((x + y) % 100 = 0)) ∧
    (∃ t u, exec (.subN8 (byteOf (y / 10 * 16 + y % 10))) s = .next t ∧ exec .daa t = .next u ∧
      u.a = byteOf ((x + 100 - y) % 100 / 10 * 16 + (x + 100 - y) % 10) ∧ u.carryFlag = decide (x < y) ∧
      u.zeroFlag = decide ((x + 100 - y) % 100 = 0))

/-- `CPL`, `SCF`, `CCF` (R292–R294). -/
def Obligations.ComplementAndCarryFlag : Prop :=
  ∀ s : State,
    (EncodedBy [0x2F] .cpl ∧
      exec .cpl s = .next { s with a := byteOf (255 - s.a.toNat), f := flagByte s.zeroFlag true true s.carryFlag,
                                   cpuCycles := s.cpuCycles + 4 }) ∧
    (EncodedBy [0x37] .scf ∧
      exec .scf s = .next { s with f := flagByte s.zeroFlag false false true, cpuCycles := s.cpuCycles + 4 }) ∧
    (EncodedBy [0x3F] .ccf ∧
      exec .ccf s = .next { s with f := flagByte s.zeroFlag false false (!s.carryFlag), cpuCycles := s.cpuCycles + 4 })

/-! ## 16-bit arithmetic -/

/-- `ADD HL,rr` with carries out of bits 11 and 15 and Z unchanged; `ADD SP,e8` with its flags from the low byte
(R300, R303). -/
def Obligations.AddWords : Prop :=
  ∀ s : State,
    (∀ p : Reg16, EncodedBy [byteOf (0x09 + 16 * p.code)] (Row.addHl p) ∧
      exec (Row.addHl p) s =
        .next { s with
          h := hiByte (BitVec.ofNat 16 ((wordOf s.h s.l).toNat + (s.reg16 p).toNat))
          l := loByte (BitVec.ofNat 16 ((wordOf s.h s.l).toNat + (s.reg16 p).toNat))
          f := flagByte s.zeroFlag false
            (decide ((wordOf s.h s.l).toNat % 0x1000 + (s.reg16 p).toNat % 0x1000 > 0x0FFF))
            (decide ((wordOf s.h s.l).toNat + (s.reg16 p).toNat > 0xFFFF))
          cpuCycles := s.cpuCycles + 8 }) ∧
    (∀ e : Byte, EncodedBy [0xE8, e] (.addSpE8 e) ∧
      exec (.addSpE8 e) s =
        .next { s with
          sp := BitVec.ofInt 16 (s.sp.toNat + e.toInt)
          f := flagByte false false (decide (s.sp.toNat % 16 + e.toNat % 16 > 15))
            (decide (s.sp.toNat % 256 + e.toNat > 255))
          cpuCycles := s.cpuCycles + 16 })

/-- `INC rr`, `DEC rr`: modulo 65536, no flag touched (R301, R302). -/
def Obligations.IncrementAndDecrementPairs : Prop :=
  ∀ (p : Reg16) (s : State),
    (EncodedBy [byteOf (0x03 + 16 * p.code)] (Row.inc16 p) ∧
      exec (Row.inc16 p) s =
        .next { s.setReg16 p (BitVec.ofNat 16 ((s.reg16 p).toNat + 1)) with cpuCycles := s.cpuCycles + 8 }) ∧
    (EncodedBy [byteOf (0x0B + 16 * p.code)] (Row.dec16 p) ∧
      exec (Row.dec16 p) s =
        .next { s.setReg16 p (BitVec.ofNat 16 ((s.reg16 p).toNat + 65535)) with cpuCycles := s.cpuCycles + 8 })

/-! ## Rotates, shifts and bits -/

/-- `RLCA`, `RRCA`, `RLA`, `RRA`: Z is always cleared (R320–R323). -/
def Obligations.AccumulatorRotates : Prop :=
  ∀ s : State,
    (EncodedBy [0x07] .rlca ∧
      exec .rlca s = .next { s with a := byteOf (s.a.toNat * 2 % 256 + s.a.toNat / 128),
                                    f := flagByte false false false (s.a.getLsbD 7), cpuCycles := s.cpuCycles + 4 }) ∧
    (EncodedBy [0x0F] .rrca ∧
      exec .rrca s = .next { s with a := byteOf (s.a.toNat / 2 + 128 * (s.a.toNat % 2)),
                                    f := flagByte false false false (s.a.getLsbD 0), cpuCycles := s.cpuCycles + 4 }) ∧
    (EncodedBy [0x17] .rla ∧
      exec .rla s = .next { s with a := byteOf (s.a.toNat * 2 % 256 + s.carryFlag.toNat),
                                   f := flagByte false false false (s.a.getLsbD 7), cpuCycles := s.cpuCycles + 4 }) ∧
    (EncodedBy [0x1F] .rra ∧
      exec .rra s = .next { s with a := byteOf (s.a.toNat / 2 + 128 * s.carryFlag.toNat),
                                   f := flagByte false false false (s.a.getLsbD 0), cpuCycles := s.cpuCycles + 4 })

/-- The eight CB shifts and rotates of a register (R325, R327, R329, R331, R333, R335, R337, R339, by the table of R324). -/
def Obligations.ShiftsOfRegisters : Prop :=
  ∀ (op : ShiftOp) (r : Reg8) (s : State),
    EncodedBy [0xCB, byteOf (8 * op.code + r.code)] (Row.shift op (.reg r)) ∧
    exec (Row.shift op (.reg r)) s =
      .next { s.setReg8 r (byteOf (shiftTable op (s.reg8 r) s.carryFlag).1) with
        f := flagByte (decide ((shiftTable op (s.reg8 r) s.carryFlag).1 = 0)) false false
          (shiftTable op (s.reg8 r) s.carryFlag).2
        cpuCycles := s.cpuCycles + 8 }

/-- The eight CB shifts and rotates of the byte at HL: one read, one write, at the same address, then the flags (R326,
R328, R330, R332, R334, R336, R338, R340, by the table of R324). -/
def Obligations.ShiftsOfTheByteAtHl : Prop :=
  ∀ (op : ShiftOp) (s : State),
    EncodedBy [0xCB, byteOf (8 * op.code + 6)] (Row.shift op .atHl) ∧ ∃ t, exec (Row.shift op .atHl) s = .next t ∧
      s.WroteOnly (wordOf s.h s.l) (byteOf (shiftTable op (s.memRead (wordOf s.h s.l)) s.carryFlag).1)
        { s with
          f := flagByte (decide ((shiftTable op (s.memRead (wordOf s.h s.l)) s.carryFlag).1 = 0)) false false
            (shiftTable op (s.memRead (wordOf s.h s.l)) s.carryFlag).2
          cpuCycles := s.cpuCycles + 16 } t

/-- `BIT b`: only the flags change; Z is the complement of the bit, Cy stays (R341, R342). -/
def Obligations.BitTest : Prop :=
  ∀ (b : Fin 8) (o : Operand8) (s : State),
    EncodedBy [0xCB, byteOf (0x40 + 8 * b.val + o.code)] (Row.bit b o) ∧
    exec (Row.bit b o) s =
      .next { s with f := flagByte (!(s.operand8 o).getLsbD b.val) false true s.carryFlag,
                     cpuCycles := s.cpuCycles + (if o = .atHl then 12 else 8) }

/-- `RES b` and `SET b` of a register or the byte at HL: one bit, no flag (R343–R346). -/
def Obligations.BitResetAndSet : Prop :=
  ∀ (b : Fin 8) (s : State),
    (∀ r : Reg8, EncodedBy [0xCB, byteOf (0x80 + 8 * b.val + r.code)] (Row.res b (.reg r)) ∧
      exec (Row.res b (.reg r)) s =
        .next { s.setReg8 r (byteOf ((s.reg8 r).toNat - 2 ^ b.val * ((s.reg8 r).getLsbD b.val).toNat)) with
          cpuCycles := s.cpuCycles + 8 }) ∧
    (EncodedBy [0xCB, byteOf (0x86 + 8 * b.val)] (Row.res b .atHl) ∧ ∃ t, exec (Row.res b .atHl) s = .next t ∧
      s.WroteOnly (wordOf s.h s.l)
        (byteOf ((s.memRead (wordOf s.h s.l)).toNat -
          2 ^ b.val * ((s.memRead (wordOf s.h s.l)).getLsbD b.val).toNat))
        { s with cpuCycles := s.cpuCycles + 16 } t) ∧
    (∀ r : Reg8, EncodedBy [0xCB, byteOf (0xC0 + 8 * b.val + r.code)] (Row.set b (.reg r)) ∧
      exec (Row.set b (.reg r)) s =
        .next { s.setReg8 r (byteOf ((s.reg8 r).toNat + 2 ^ b.val * (!(s.reg8 r).getLsbD b.val).toNat)) with
          cpuCycles := s.cpuCycles + 8 }) ∧
    (EncodedBy [0xCB, byteOf (0xC6 + 8 * b.val)] (Row.set b .atHl) ∧ ∃ t, exec (Row.set b .atHl) s = .next t ∧
      s.WroteOnly (wordOf s.h s.l)
        (byteOf ((s.memRead (wordOf s.h s.l)).toNat +
          2 ^ b.val * (!(s.memRead (wordOf s.h s.l)).getLsbD b.val).toNat))
        { s with cpuCycles := s.cpuCycles + 16 } t)

/-! ## Control flow -/

/-- `JP n16`, `JP cc,n16`, `JP HL`, `JR e8`, `JR cc,e8`, taken and not taken (R361–R365). -/
def Obligations.Jumps : Prop :=
  ∀ s : State,
    (∀ n : Word, EncodedBy [0xC3, loByte n, hiByte n] (.jpN16 n) ∧
      exec (.jpN16 n) s = .next { s with pc := n, cpuCycles := s.cpuCycles + 16 }) ∧
    (∀ (cc : Cond) (n : Word), EncodedBy [byteOf (0xC2 + 8 * cc.code), loByte n, hiByte n] (Row.jpCond cc n) ∧
      exec (Row.jpCond cc n) s =
        if s.taken cc then .next { s with pc := n, cpuCycles := s.cpuCycles + 16 }
        else .next { s with cpuCycles := s.cpuCycles + 12 }) ∧
    (EncodedBy [0xE9] .jpHl ∧
      exec .jpHl s = .next { s with pc := wordOf s.h s.l, cpuCycles := s.cpuCycles + 4 }) ∧
    (∀ e : Byte, EncodedBy [0x18, e] (.jrE8 e) ∧
      exec (.jrE8 e) s =
        .next { s with pc := BitVec.ofInt 16 (s.pc.toNat + e.toInt), cpuCycles := s.cpuCycles + 12 }) ∧
    (∀ (cc : Cond) (e : Byte), EncodedBy [byteOf (0x20 + 8 * cc.code), e] (Row.jrCond cc e) ∧
      exec (Row.jrCond cc e) s =
        if s.taken cc then
          .next { s with pc := BitVec.ofInt 16 (s.pc.toNat + e.toInt), cpuCycles := s.cpuCycles + 12 }
        else .next { s with cpuCycles := s.cpuCycles + 8 })

/-- `CALL n16`, `CALL cc,n16` taken and not taken, `RST t`: PC is pushed, high byte first (R366, R367, R371). -/
def Obligations.CallsAndRestarts : Prop :=
  ∀ s : State,
    (∀ n : Word, EncodedBy [0xCD, loByte n, hiByte n] (.callN16 n) ∧ ∃ t, exec (.callN16 n) s = .next t ∧
      s.WroteBoth (s.sp - 1) (hiByte s.pc) (s.sp - 2) (loByte s.pc)
        { s with sp := s.sp - 2, pc := n, cpuCycles := s.cpuCycles + 24 } t) ∧
    (∀ (cc : Cond) (n : Word), EncodedBy [byteOf (0xC4 + 8 * cc.code), loByte n, hiByte n] (Row.callCond cc n) ∧
      (if s.taken cc then
        ∃ t, exec (Row.callCond cc n) s = .next t ∧
          s.WroteBoth (s.sp - 1) (hiByte s.pc) (s.sp - 2) (loByte s.pc)
            { s with sp := s.sp - 2, pc := n, cpuCycles := s.cpuCycles + 24 } t
      else exec (Row.callCond cc n) s = .next { s with cpuCycles := s.cpuCycles + 12 })) ∧
    (∀ y : Fin 8, EncodedBy [byteOf (0xC7 + 8 * y.val)] (Row.rst y) ∧ ∃ t, exec (Row.rst y) s = .next t ∧
      s.WroteBoth (s.sp - 1) (hiByte s.pc) (s.sp - 2) (loByte s.pc)
        { s with sp := s.sp - 2, pc := BitVec.ofNat 16 (8 * y.val), cpuCycles := s.cpuCycles + 16 } t)

/-- `RET`, `RET cc` taken and not taken, `RETI`, which sets IME at once and leaves the latch (R368–R370). -/
def Obligations.Returns : Prop :=
  ∀ s : State,
    (EncodedBy [0xC9] .ret ∧
      exec .ret s = .next { s with pc := wordOf (s.memRead (s.sp + 1)) (s.memRead s.sp), sp := s.sp + 2,
                                   cpuCycles := s.cpuCycles + 16 }) ∧
    (∀ cc : Cond, EncodedBy [byteOf (0xC0 + 8 * cc.code)] (Row.retCond cc) ∧
      exec (Row.retCond cc) s =
        if s.taken cc then
          .next { s with pc := wordOf (s.memRead (s.sp + 1)) (s.memRead s.sp), sp := s.sp + 2,
                         cpuCycles := s.cpuCycles + 20 }
        else .next { s with cpuCycles := s.cpuCycles + 8 }) ∧
    (EncodedBy [0xD9] .reti ∧
      exec .reti s = .next { s with pc := wordOf (s.memRead (s.sp + 1)) (s.memRead s.sp), sp := s.sp + 2, ime := true,
                                    cpuCycles := s.cpuCycles + 16 })

/-! ## Control of the CPU -/

/-- `NOP`, `HALT`, `STOP`, `DI`, `EI` (R390–R394). -/
def Obligations.CpuControl : Prop :=
  ∀ s : State,
    (EncodedBy [0x00] .nop ∧ exec .nop s = .next { s with cpuCycles := s.cpuCycles + 4 }) ∧
    (EncodedBy [0x76] .halt ∧ exec .halt s = .next { s with run := .halted, cpuCycles := s.cpuCycles + 4 }) ∧
    (∀ n : Byte, EncodedBy [0x10, n] (.stop n) ∧
      exec (.stop n) s = .next { s with run := .stopped, cpuCycles := s.cpuCycles + 4 }) ∧
    (EncodedBy [0xF3] .di ∧ exec .di s = .next { s with ime := false, cpuCycles := s.cpuCycles + 4 }) ∧
    (EncodedBy [0xFB] .ei ∧
      exec .ei s = .next { s with ime := true, eiLatch := true, cpuCycles := s.cpuCycles + 4 })

/-- `PREFIX CB`: whatever byte the CPU reads next, the prefix completes as the extended instruction that the two bytes
decode to, run with PC past that byte (R395). That the bare prefix has a meaning of its own is the model's choice of log
entry 5. -/
def Obligations.PrefixRunsTheExtendedInstruction : Prop :=
  ∀ s : State, ∃ (i : Instr) (t : State),
    EncodedBy [0xCB, s.memRead s.pc] i ∧ exec .prefixCb s = exec i { s with pc := s.pc + 1 } ∧
      exec .prefixCb s = .next t

/-- The eleven unused opcodes: PANIC, PC back on the opcode, the report recorded, no cycle charged, and nothing else
(R396, R451). -/
def Obligations.UnusedOpcodesPanic : Prop :=
  ∀ (u : UnusedOpcode) (s : State),
    EncodedBy [u.byte] (Row.unused u) ∧
    exec (Row.unused u) s =
      .next { s with run := .panic, pc := s.pc - 1,
                     panicInfo := some { opcode := u.byte, isExtended := false, foundAtAddress := s.pc - 1 } }

/-! ## The bus -/

open Classical in
/-- What a CPU read of each address gives: the first matching case (R102, with R104, R105, R107, R112, R113, R115). -/
def Obligations.CpuReadDecode : Prop :=
  ∀ (s : State) (a : Word),
    s.memRead a =
      if s.contended a then 0xFF
      else if a = 0xFF00 then
        (s.rawRead 0xFF00 &&& 0xF0) |||
          (0x0F &&& (if (s.rawRead 0xFF00).getLsbD 5 = false then s.joyAction else 0xFF) &&&
            (if (s.rawRead 0xFF00).getLsbD 4 = false then s.joyDpad else 0xFF))
      else if a = 0xFF41 then s.rawRead 0xFF41 ||| 0x80
      else if 0xE000 ≤ a.toNat ∧ a.toNat ≤ 0xFDFF then s.rawRead (BitVec.ofNat 16 (a.toNat - 0x2000))
      else if 0xFEA0 ≤ a.toNat ∧ a.toNat ≤ 0xFEFF then 0x00
      else s.rawRead a

open Classical in
/-- What every byte of the array is after a CPU write of any address but that of the DMA register: the first matching case,
and the length timers (R103, with R104, R106, R107, R109–R115). -/
def Obligations.CpuWriteDecode : Prop :=
  ∀ (s : State) (a : Word) (v : Byte), a ≠ 0xFF46 →
    (∀ b : Word, (s.memWrite a v).rawRead b =
      if s.contended a then s.rawRead b
      else if a = 0xFF00 ∧ b = 0xFF00 then (s.rawRead 0xFF00 &&& 0xCF) ||| (v &&& 0x30)
      else if a = 0xFF41 ∧ b = 0xFF41 then (s.rawRead 0xFF41 &&& 0x07) ||| (v &&& 0xF8)
      else if a = 0xFF04 ∧ b = 0xFF04 then 0x00
      else if a = 0xFF45 ∧ b = 0xFF41 then
        (s.rawRead 0xFF41 &&& 0xFB) ||| (if s.rawRead 0xFF44 = v then 0x04 else 0x00)
      else if 0xE000 ≤ a.toNat ∧ a.toNat ≤ 0xFDFF then if b.toNat = a.toNat - 0x2000 then v else s.rawRead b
      else if (0xFEA0 ≤ a.toNat ∧ a.toNat ≤ 0xFEFF) ∨ a.toNat ≤ 0x7FFF then s.rawRead b
      else if b = a then v
      else s.rawRead b) ∧
    (s.memWrite a v).lengthTimer =
      (if s.contended a then s.lengthTimer
      else if a = 0xFF11 then { s.lengthTimer with ch1 := 64 - v.toNat % 64 }
      else if a = 0xFF16 then { s.lengthTimer with ch2 := 64 - v.toNat % 64 }
      else if a = 0xFF1B then { s.lengthTimer with ch3 := 256 - v.toNat }
      else if a = 0xFF20 then { s.lengthTimer with ch4 := 64 - v.toNat % 64 }
      else s.lengthTimer) ∧
    (s.memWrite a v).dmaSource = s.dmaSource ∧ (s.memWrite a v).dmaCountdown = s.dmaCountdown

/-- A CPU write of the DMA register. One that a running transfer blocks (from source page 0xFF) is dropped: nothing at all
changes (R103, R104). Any other: the byte is stored and selects the source, the 160 bytes are in OAM at once, each as the
chosen path reads it without contention, the countdown is 640, and nothing else of the array changes (R108, R117). -/
def Obligations.DmaTransfersAtOnce : Prop :=
  (∀ (s : State) (v : Byte), s.contended 0xFF46 → s.memWrite 0xFF46 v = s) ∧
  ∀ (s : State) (v : Byte), ¬ s.contended 0xFF46 →
    (s.memWrite 0xFF46 v).dmaSource = v ∧ (s.memWrite 0xFF46 v).dmaCountdown = 640 ∧
    (s.memWrite 0xFF46 v).lengthTimer = s.lengthTimer ∧ (s.memWrite 0xFF46 v).rawRead 0xFF46 = v ∧
    (∀ i, i < 160 → (s.memWrite 0xFF46 v).rawRead (BitVec.ofNat 16 (0xFE00 + i)) =
      match s.config.dmaSourcePath with
      | .decoded =>
        ({ s.rawWrite 0xFF46 v with dmaCountdown := 0 }).memRead (BitVec.ofNat 16 (v.toNat * 256 + i))
      | .raw => (s.rawWrite 0xFF46 v).rawRead (BitVec.ofNat 16 (v.toNat * 256 + i))) ∧
    (∀ b : Word, b ≠ 0xFF46 → ¬ (0xFE00 ≤ b.toNat ∧ b.toNat ≤ 0xFE9F) →
      (s.memWrite 0xFF46 v).rawRead b = s.rawRead b)

/-- A transfer lasts 160 MMU ticks: after `k` ticks from 640 the countdown is 640 - 4k, down to 0, where it stays, and the
transfer is in progress for exactly the first 160 (R45, R118). -/
def Obligations.DmaWindowLasts160Ticks : Prop :=
  ∀ (s : State) (k : Nat), s.dmaCountdown = 640 →
    (State.mmuTick^[k] s).dmaCountdown = 640 - 4 * (min k 160 : Nat) ∧
    ((State.mmuTick^[k] s).dmaActive = true ↔ k < 160) ∧
    State.mmuTick^[k] s = { s with dmaCountdown := (State.mmuTick^[k] s).dmaCountdown }

/-- What the environment may do: its Timer slot changes DIV, TIMA and IF alone and never clears a bit of IF, setting of IF
only bits 2, 3 and 4; its APU slot changes the sound registers and the length timers alone (R421, R424). -/
def Obligations.EnvironmentSlots : Prop :=
  (∀ (s : State) (d : TimerDraw),
    s.envTimerSlot d = { s with mem := (s.envTimerSlot d).mem } ∧
    (∀ a : Word, a ≠ 0xFF04 → a ≠ 0xFF05 → a ≠ 0xFF0F → (s.envTimerSlot d).rawRead a = s.rawRead a) ∧
    (s.envTimerSlot d).rawRead 0xFF04 = d.div.getD (s.rawRead 0xFF04) ∧
    (s.envTimerSlot d).rawRead 0xFF05 = d.tima.getD (s.rawRead 0xFF05) ∧
    (s.envTimerSlot d).rawRead 0xFF0F =
      s.rawRead 0xFF0F ||| byteOf (4 * d.timerIrq.toNat + 8 * d.serialIrq.toNat + 16 * d.joypadIrq.toNat)) ∧
  (∀ (s : State) (d : ApuDraw),
    s.envApuSlot d = { s with mem := (s.envApuSlot d).mem, lengthTimer := d.lengths.getD s.lengthTimer } ∧
    (∀ a : Word, ¬ (0xFF10 ≤ a.toNat ∧ a.toNat ≤ 0xFF3F) → (s.envApuSlot d).rawRead a = s.rawRead a)) ∧
  (∀ s : State, s.envTimerSlot {} = s ∧ s.envApuSlot {} = s)

/-! ## The CPU's tick and the iteration -/

/-- A step runs the decoded instruction: when the host and the Timer slot lead to `t`, the CPU runs there and is not ahead
of the master count, and the bytes it reads at PC are those of `i`, then the step is `exec i`, with the latch cleared and PC
past the instruction, followed by the other slots (R411–R414, R416, R420); with nothing queued, `t` is `s` itself. Around
it: the head of the queue is what the outside does in this iteration; before the CPU come the host's reset (the reset state
over the cartridge, so RUNNING, R550), the host's joypad values, opposing directions having no move (R428), and the head's
Timer draw (R421); after it the MMU, the PPU, the head's APU draw, the poll, and 4 T-cycles on the master count (R420). That
the queue stands in the state, that the reset comes before the joypad values, and that it leaves them and the queue, is the
model's form (log entries 3, 18, 13). -/
def Obligations.StepRunsTheDecodedInstruction : Prop :=
  (∀ (s t : State) (i : Instr),
    s.beforeCpu = .next t → t.run = .running → t.cpuCycles ≤ t.master → i.wellFormed = true →
    (∀ k, k < (encode i).length → t.memRead (t.pc + BitVec.ofNat 16 k) = (encode i).getD k 0) →
    step s =
      Result.andThen (exec i { t with eiLatch := false, pc := t.pc + BitVec.ofNat 16 (encode i).length })
        (fun u => .next (u.afterCpu s.input.apu))) ∧
  (∀ s : State, s.inputs = [] → s.beforeCpu = .next s) ∧
  (∀ s : State, s.input = s.inputs.headD {} ∧
    step s = Result.andThen (Result.andThen s.beforeCpu State.cpuTick) (fun t => .next (t.afterCpu s.input.apu)) ∧
    (s.explicitReset.run = .running ∧
      s.explicitReset = { State.reset with f := s.explicitReset.f, mem := s.explicitReset.mem, config := s.config,
                                           joyAction := s.joyAction, joyDpad := s.joyDpad, inputs := s.inputs }) ∧
    s.beforeCpu =
      let later : State := { s with inputs := s.inputs.tail }
      let held := if s.input.host.reset then later.explicitReset else later
      match s.input.host.joypad with
      | none => .next (held.envTimerSlot s.input.timer)
      | some (action, dpad) =>
        if (dpad.getLsbD 0 = false ∧ dpad.getLsbD 1 = false) ∨ (dpad.getLsbD 2 = false ∧ dpad.getLsbD 3 = false) then
          .refused .opposingDirections
        else .next (({ held with joyAction := action, joyDpad := dpad }).envTimerSlot s.input.timer)) ∧
  (∀ (s : State) (apu : ApuDraw),
    s.afterCpu apu =
      { (((s.mmuTick).ppuTick).envApuSlot apu).poll with
        master := (((s.mmuTick).ppuTick).envApuSlot apu).poll.master + 4 })

/-- The CPU's tick does nothing in PANIC and nothing while the CPU is ahead of the master count; a halted or stopped CPU is
at most charged 4 T-cycles, when the parameter says so (R411, R412, R419). -/
def Obligations.CycleGateAndIdleTicks : Prop :=
  ∀ s : State,
    (s.run = .panic → s.cpuTick = .next s) ∧
    (s.master < s.cpuCycles → s.cpuTick = .next s) ∧
    ((s.run = .halted ∨ s.run = .stopped) → s.cpuCycles ≤ s.master →
      s.cpuTick = .next { s with cpuCycles := s.cpuCycles + (if s.config.haltCycleSync then 4 else 0) })

/-- Every iteration ends with the master count 4 higher; only the host's reset sets it back (R426). -/
def Obligations.MasterCountAdvancesByFour : Prop :=
  ∀ s t : State, step s = .next t → t.master = (if s.input.host.reset then 0 else s.master) + 4

/-- No step faults; a step has no move exactly when the host reports opposing directions pressed; and `exec` answers a next
state for every instruction in every state (R123, R428, R450). Both halves are the model's form: R450 calls the unused
opcodes' `UnsupportedInstruction` a synchronous fault, which here is a next state in PANIC with the report recorded, the
system iterating on (R451, R429; log entry 7); and the step refuses an input that has "no move" (log entry 8). -/
def Obligations.OnlyOpposingDirectionsHaveNoMove : Prop :=
  (∀ (s : State) (x : Fault), step s ≠ .fault x) ∧
  (∀ (s : State) (x : Refusal), step s = .refused x ↔
    x = .opposingDirections ∧ ∃ v, s.input.host.joypad = some v ∧
      ((v.2.getLsbD 0 = false ∧ v.2.getLsbD 1 = false) ∨ (v.2.getLsbD 2 = false ∧ v.2.getLsbD 3 = false))) ∧
  (∀ (i : Instr) (s : State), ∃ t, exec i s = .next t)

/-- "A panicked CPU stays panicked until an explicit reset": no step without one changes the run state, the report, PC, SP,
a register, a flag, IME, the latch or the CPU's cycle count (R451). And what the driver makes of it (R427, R429): under
whatever the outside does in each iteration, without end (R421, R424, R428), a run of `n` frames of 17556 iterations stops
after them if no frame boundary on the way was in PANIC, ends panicked, with the report, at the first boundary that is, and
never ends if no boundary ever is; a run from power-on does not start on too short an image (R554). The steps of a state with
a queue are the iterations under what the queue says and an idle outside after it. That the driver stands outside the step
and the queue in the state is the model's form (log entries 22, 3). -/
def Obligations.PanicLastsUntilReset : Prop :=
  (∀ s t : State, s.run = .panic → s.input.host.reset = false → step s = .next t →
    t.run = .panic ∧ t.panicInfo = s.panicInfo ∧ t.pc = s.pc ∧ t.sp = s.sp ∧ t.a = s.a ∧ t.f = s.f ∧ t.b = s.b ∧
      t.c = s.c ∧ t.d = s.d ∧ t.e = s.e ∧ t.h = s.h ∧ t.l = s.l ∧ t.ime = s.ime ∧ t.eiLatch = s.eiLatch ∧
      t.cpuCycles = s.cpuCycles) ∧
  (∀ (outside : Outside) (s : State) (n : Nat) (t : State),
    driverRun outside n s = .stopped t ↔
      iterateUnder outside (17556 * n) s = .next t ∧
        ∀ (k : Nat) (u : State), 1 ≤ k → k ≤ n → iterateUnder outside (17556 * k) s = .next u → u.run ≠ .panic) ∧
  (∀ (outside : Outside) (s : State) (n : Nat) (info : Option PanicInfo) (t : State),
    driverRun outside n s = .panicked info t ↔
      ∃ k, 1 ≤ k ∧ k ≤ n ∧ iterateUnder outside (17556 * k) s = .next t ∧ t.run = .panic ∧ info = t.panicInfo ∧
        ∀ (j : Nat) (u : State), 1 ≤ j → j < k → iterateUnder outside (17556 * j) s = .next u → u.run ≠ .panic) ∧
  (∀ (outside : Outside) (s : State), s.NonTerminating outside ↔
    ∀ k, ∃ u, iterateUnder outside (17556 * k) s = .next u ∧ (1 ≤ k → u.run ≠ .panic)) ∧
  (∀ (config : Config) (rom : List Byte) (outside : Outside) (n : Nat),
    (rom.length < 0x150 → runFromPowerOn config rom outside n = .notStarted .invalidCartridgeSize) ∧
    (0x150 ≤ rom.length → ∃ s, powerOn config rom = .next s ∧
      runFromPowerOn config rom outside n = driverRun outside n s)) ∧
  (∀ (s : State) (n : Nat),
    iterate n s = Result.andThen (iterateUnder (fun k => s.inputs.getD k {}) n s)
      (fun t => .next (t.queued (s.inputs.drop n))))

/-- A halted or stopped CPU with IME = 0 stays so in every step without a reset, whatever interrupts are raised: the hang of
R464, which the spec marks as derived. -/
def Obligations.HaltWithInterruptsDisabledHangs : Prop :=
  ∀ s t : State, (s.run = .halted ∨ s.run = .stopped) → s.ime = false → s.input.host.reset = false → step s = .next t →
    t.run = s.run ∧ t.ime = false ∧ t.pc = s.pc ∧ t.sp = s.sp ∧ t.a = s.a ∧ t.f = s.f ∧ t.b = s.b ∧ t.c = s.c ∧
      t.d = s.d ∧ t.e = s.e ∧ t.h = s.h ∧ t.l = s.l ∧ t.eiLatch = s.eiLatch ∧ t.panicInfo = s.panicInfo

/-- The run state's transitions are the complete list of R38: an instruction changes it only by HALT, STOP and the unused
opcodes, the poll only to RUNNING and never out of PANIC, and a step without a reset leaves PANIC, and goes from HALTED or
STOPPED only to RUNNING. -/
def Obligations.RunStateTransitionsAreComplete : Prop :=
  (∀ (i : Instr) (s t : State), exec i s = .next t →
    t.run = s.run ∨ (i = .halt ∧ t.run = .halted) ∨ ((∃ n, i = .stop n) ∧ t.run = .stopped) ∨
      ((∃ u, i = Row.unused u) ∧ t.run = .panic)) ∧
  (∀ s : State, s.poll.run = s.run ∨ (s.run ≠ .panic ∧ s.poll.run = .running)) ∧
  (∀ s t : State, s.input.host.reset = false → step s = .next t →
    (s.run = .panic → t.run = .panic) ∧ (s.run = .halted → t.run = .halted ∨ t.run = .running) ∧
      (s.run = .stopped → t.run = .stopped ∨ t.run = .running))

/-- Only EI, RETI and DI write IME, and only EI sets the latch (R39, R40, and D7 for RETI). -/
def Obligations.OnlyEiDiRetiWriteInterruptEnable : Prop :=
  ∀ (i : Instr) (s t : State), exec i s = .next t →
    (i = .ei → t.ime = true ∧ t.eiLatch = true) ∧ (i = .reti → t.ime = true) ∧ (i = .di → t.ime = false) ∧
    (i ≠ .ei → i ≠ .reti → i ≠ .di → t.ime = s.ime) ∧ (i ≠ .ei → t.eiLatch = s.eiLatch)

/-- The poll takes the lowest source that is enabled and pending: its IF bit and IME are cleared, PC is pushed, PC becomes
0x0040 + 8i, the CPU runs, 20 T-cycles are charged, and nothing else changes; in every other case the poll changes nothing
(R457, R458, R460, R461). -/
def Obligations.PollTakesTheHighestPriority : Prop :=
  (∀ (s : State) (i : Nat), s.run ≠ .panic → s.eiLatch = false → s.ime = true → i < 5 → s.requested i →
    (∀ j, j < i → ¬ s.requested j) →
    (s.rawWrite 0xFF0F (byteOf ((s.rawRead 0xFF0F).toNat - 2 ^ i))).WroteBoth (s.sp - 1) (hiByte s.pc) (s.sp - 2)
      (loByte s.pc)
      { s with sp := s.sp - 2, ime := false, pc := BitVec.ofNat 16 (0x40 + 8 * i), run := .running,
               cpuCycles := s.cpuCycles + 20 } s.poll) ∧
  (∀ s : State, (s.run = .panic ∨ s.eiLatch = true ∨ s.ime = false ∨ ∀ j, j < 5 → ¬ s.requested j) → s.poll = s)

/-- EI takes effect only after the next instruction: the step that executes EI dispatches nothing and leaves IME and the
latch set, and so does every later step in which the CPU is still ahead of the master count (R394, R557). -/
def Obligations.EiIsDelayedByOneInstruction : Prop :=
  (∀ s t : State, s.inputs = [] → s.run = .running → s.cpuCycles ≤ s.master → s.memRead s.pc = 0xFB → step s = .next t →
    t.ime = true ∧ t.eiLatch = true ∧ t.pc = s.pc + 1 ∧ t.sp = s.sp ∧ t.run = .running) ∧
  (∀ s t : State, s.input.host.reset = false → s.eiLatch = true → s.master < s.cpuCycles → step s = .next t →
    t.eiLatch = true ∧ t.ime = s.ime ∧ t.pc = s.pc ∧ t.sp = s.sp ∧ t.run = s.run)

/-! ## Invariants -/

/-- Every step keeps the invariant. -/
def Obligations.EveryStepKeepsTheInvariant : Prop :=
  ∀ s t : State, s.Inv → step s = .next t → t.Inv

/-- The state after reset meets it. -/
def Obligations.ResetMeetsTheInvariant : Prop := State.reset.Inv

/-- Code in ROM cannot be modified: no step, whatever the CPU, the PPU, the environment or the host does, changes a byte of
0x0000..0x7FFF (R114, R126). -/
def Obligations.RomIsNeverWritten : Prop :=
  ∀ (s t : State) (a : Word), a.toNat ≤ 0x7FFF → step s = .next t → t.rawRead a = s.rawRead a

/-! ## The picture -/

/-- One PPU tick, in memory: with the LCD off only LY becomes 0 (and the position and the window counter 0); with it on, LY,
STAT's low three bits and IF bits 0 and 1 are as R491–R497 and R499 say, no other byte changes, and the position advances by
4 modulo 70224. That line and mode are those of the position before it advances, and that it advances at the end of the
tick, is the model's choice where the spec's files differ (log entry 24). -/
def Obligations.PpuTickOnMemory : Prop :=
  ∀ s : State,
    ((s.rawRead 0xFF40).getLsbD 7 = false →
      s.ppuTick = { s.rawWrite 0xFF44 0x00 with frameSync := 0, windowLine := 0 }) ∧
    ((s.rawRead 0xFF40).getLsbD 7 = true →
      let ly := s.frameSync / 456 % 154
      let m := modeNumber s.frameSync
      let entered : Prop := m ≠ (s.rawRead 0xFF41).toNat % 4
      let same : Bool := decide ((s.rawRead 0xFF45).toNat = ly)
      let stat : Bool :=
        (decide (m = 0) && (s.rawRead 0xFF41).getLsbD 3) || (decide (m = 1) && (s.rawRead 0xFF41).getLsbD 4) ||
          (decide (m = 2) && (s.rawRead 0xFF41).getLsbD 5) || (same && (s.rawRead 0xFF41).getLsbD 6)
      s.ppuTick = { s with mem := s.ppuTick.mem, frameSync := (s.frameSync + 4) % 70224,
                           windowLine := s.ppuTick.windowLine, bgIndex := s.ppuTick.bgIndex, back := s.ppuTick.back,
                           front := s.ppuTick.front } ∧
      s.ppuTick.rawRead 0xFF44 = byteOf ly ∧
      s.ppuTick.rawRead 0xFF41 = byteOf ((s.rawRead 0xFF41).toNat / 8 * 8 + 4 * same.toNat + m) ∧
      (entered → s.ppuTick.rawRead 0xFF0F =
        s.rawRead 0xFF0F ||| (if m = 1 then 0x01 else 0x00) ||| (if stat then 0x02 else 0x00)) ∧
      (¬ entered → s.ppuTick.rawRead 0xFF0F = s.rawRead 0xFF0F) ∧
      (∀ a : Word, a ≠ 0xFF44 → a ≠ 0xFF41 → a ≠ 0xFF0F → s.ppuTick.rawRead a = s.rawRead a))

/-- One PPU tick with the LCD on, in the frame buffers: entering VBLANK shows the drawn frame; going from VBLANK to
OAM_SEARCH clears the drawn frame and the window counter; entering PIXEL_TRANSFER draws its own line and no other, as the
background pass and then the object pass of that line make it, of the memory as this tick leaves it (LY, STAT and IF
written); every other tick leaves them all (R496, R498–R500, R503). That line and mode are those of the position before it
advances is the model's choice where the spec's files differ (log entry 24). -/
def Obligations.PpuTickOnFrames : Prop :=
  ∀ s : State, (s.rawRead 0xFF40).getLsbD 7 = true →
    let ly := s.frameSync / 456 % 154
    let m := modeNumber s.frameSync
    let old := (s.rawRead 0xFF41).toNat % 4
    (m = 1 → old ≠ 1 → s.ppuTick.front = s.back ∧ s.ppuTick.back = s.back ∧ s.ppuTick.bgIndex = s.bgIndex ∧
      s.ppuTick.windowLine = s.windowLine) ∧
    (m = 2 → old = 1 → s.ppuTick.windowLine = 0 ∧ (∀ x y, s.ppuTick.back.cell x y = 0) ∧ s.ppuTick.front = s.front ∧
      s.ppuTick.bgIndex = s.bgIndex) ∧
    (m = 3 → old ≠ 3 →
      let drawn := (({ s with mem := s.ppuTick.mem }).renderBackground ly).renderObjects ly
      s.ppuTick.back = drawn.back ∧ s.ppuTick.bgIndex = drawn.bgIndex ∧ s.ppuTick.windowLine = drawn.windowLine ∧
      s.ppuTick.front = s.front ∧
      ∀ x y, y ≠ ly → s.ppuTick.back.cell x y = s.back.cell x y ∧ s.ppuTick.bgIndex.cell x y = s.bgIndex.cell x y) ∧
    ((m = old ∨ m = 0 ∨ (m = 2 ∧ old ≠ 1)) → s.ppuTick.front = s.front ∧ s.ppuTick.back = s.back ∧
      s.ppuTick.bgIndex = s.bgIndex ∧ s.ppuTick.windowLine = s.windowLine)

open Classical in
/-- The background and window pass over a visible line, pixel by pixel: the colour index from the window or the background,
its shade through BGP, both 0 when LCDC bit 0 gates them; the window counter advances exactly when a pixel came from the
window (R503–R513). -/
def Obligations.BackgroundAndWindowPixels : Prop :=
  ∀ (s : State) (ly : Nat), ly < 144 → ly < s.bgIndex.length → ly < s.back.length →
    (∀ x, x < 160 →
      let lcdc := s.byteAt 0xFF40
      let colour : Nat :=
        if s.config.bgEnableGates = true ∧ lcdc.getLsbD 0 = false then 0
        else if s.fromWindow ly x then
          s.tileColour (if lcdc.getLsbD 6 then 0x9C00 else 0x9800) s.windowLine
            ((x : Int) - ((s.byteAt 0xFF4B).toNat - 7)).toNat (lcdc.getLsbD 4)
        else
          s.tileColour (if lcdc.getLsbD 3 then 0x9C00 else 0x9800) ((ly + (s.byteAt 0xFF42).toNat) % 256)
            ((x + (s.byteAt 0xFF43).toNat) % 256) (lcdc.getLsbD 4)
      ((s.renderBackground ly).bgIndex.cell x ly).toNat = colour ∧
      ((s.renderBackground ly).back.cell x ly).toNat =
        if s.config.bgEnableGates = true ∧ lcdc.getLsbD 0 = false then 0
        else (s.byteAt 0xFF47).toNat / 4 ^ colour % 4) ∧
    (s.renderBackground ly).windowLine =
      (if ∃ x, x < 160 ∧ s.fromWindow ly x then s.windowLine + 1 else s.windowLine)

/-- Which objects a line has and in which order they are drawn: the first ten entries of OAM that are on the line, in OAM
order (R516); of those the ones that are on the screen, sorted by (X, n) descending, so that the last drawn has the lowest X,
then the lowest entry (R517, R518). And the object pass of a line as a whole: nothing where LCDC bit 1 gates it (R522); else,
with the height that LCDC bit 2 selects (R515), the objects drawn in that order, one over the other, on that line of the
drawn frame, against that line of the index cache, and no other line or state changed (R514). -/
def Obligations.ObjectSelectionAndOrder : Prop :=
  (∀ (s : State) (ly : Nat),
    let h := if (s.byteAt 0xFF40).getLsbD 2 then 16 else 8
    s.renderObjects ly =
      if s.config.objEnableGates = true ∧ (s.byteAt 0xFF40).getLsbD 1 = false then s
      else
        { s with back := s.back.set ly ((s.drawOrder ((s.verticalSelect ly h).filter s.onScreen)).foldl
            (fun line n => s.drawObject ly h (s.bgIndex.getD ly []) line n) (s.back.getD ly [])) }) ∧
  ∀ (s : State) (ly h : Nat),
    let sel := s.verticalSelect ly h
    let drawn := s.drawOrder (sel.filter s.onScreen)
    (sel.length ≤ 10 ∧ sel.Pairwise (fun m n => m < n) ∧ (∀ n ∈ sel, n < 40 ∧ s.onLine ly h n) ∧
      ∀ n, n < 40 → s.onLine ly h n → n ∈ sel ∨ (sel.length = 10 ∧ ∀ m ∈ sel, m < n)) ∧
    (∀ n, n ∈ drawn ↔ n ∈ sel ∧ 0 < s.objX n ∧ s.objX n < 168) ∧
    drawn.Pairwise (fun m n => s.objX n < s.objX m ∨ (s.objX m = s.objX n ∧ n < m))

open Classical in
/-- One object on a line: a column it covers takes the shade of its colour index in the palette it selects, unless the index
is 0 or the object is below a background of nonzero index; no other column changes (R519–R521). -/
def Obligations.ObjectColumns : Prop :=
  ∀ (s : State) (ly h : Nat) (bgLine line : Line) (n x : Nat), x < 160 → line.length = 160 → s.onLine ly h n →
    let y := (s.byteAt (0xFE00 + 4 * n)).toNat
    let xo := (s.byteAt (0xFE01 + 4 * n)).toNat
    let tile := (s.byteAt (0xFE02 + 4 * n)).toNat
    let attr := s.byteAt (0xFE03 + 4 * n)
    let row := if attr.getLsbD 6 then h - 1 - (ly + 16 - y) else ly + 16 - y
    let a := 0x8000 + (if h = 16 then tile / 2 * 2 else tile) * 16 + 2 * row
    let c := x + 8 - xo
    let bit := if attr.getLsbD 5 then c else 7 - c
    let colour := ((s.byteAt a).getLsbD bit).toNat + 2 * ((s.byteAt (a + 1)).getLsbD bit).toNat
    let palette := (s.byteAt (if attr.getLsbD 4 then 0xFF49 else 0xFF48)).toNat
    ((s.drawObject ly h bgLine line n).getD x 0).toNat =
      if xo ≤ x + 8 ∧ x + 8 < xo + 8 ∧ colour ≠ 0 ∧ ¬ (attr.getLsbD 7 = true ∧ bgLine.getD x 0 ≠ 0) then
        palette / 4 ^ colour % 4
      else (line.getD x 0).toNat

/-! ## Reset -/

/-- The state after reset, field by field (R35, R67, R68), every byte of the profile `DMG_POST_BOOT` (R69), the joypad
unpressed (R51), the parameters' defaults (R7), an idle outside. The model's choices in it: the profile is what unlisted
memory reads as (log entry 1); the header checksum byte of an absent cartridge reads 0, hence F = 0x80 (2); the empty queue
(3); the parameters as a field (4). -/
def Obligations.ResetValues : Prop :=
  let s := State.reset
  (s.a = 0x01 ∧ s.f = 0x80 ∧ s.b = 0x00 ∧ s.c = 0x13 ∧ s.d = 0x00 ∧ s.e = 0xD8 ∧ s.h = 0x01 ∧ s.l = 0x4D ∧
    s.sp = 0xFFFE ∧ s.pc = 0x0100 ∧ s.ime = false ∧ s.eiLatch = false ∧ s.run = .running ∧ s.cpuCycles = 0 ∧
    s.master = 0 ∧ s.panicInfo = none) ∧
  (s.dmaCountdown = 0 ∧ s.dmaSource = 0 ∧ s.lengthTimer = ⟨0, 0, 0, 0⟩ ∧ s.frameSync = 0 ∧ s.windowLine = 0 ∧
    Frame.wf s.bgIndex = true ∧ Frame.wf s.back = true ∧ Frame.wf s.front = true ∧
    ∀ x y, s.bgIndex.cell x y = 0 ∧ s.back.cell x y = 0 ∧ s.front.cell x y = 0) ∧
  ([0xFF00, 0xFF01, 0xFF02, 0xFF04, 0xFF05, 0xFF06, 0xFF07, 0xFF0F].map s.rawRead =
    [0xCF, 0x00, 0x7E, 0xAB, 0x00, 0x00, 0xF8, 0xE1]) ∧
  ([0xFF10, 0xFF11, 0xFF12, 0xFF13, 0xFF14, 0xFF16, 0xFF17, 0xFF18, 0xFF19, 0xFF1A, 0xFF1B, 0xFF1C, 0xFF1D,
      0xFF1E].map s.rawRead =
    [0x80, 0xBF, 0xF3, 0xFF, 0xBF, 0x3F, 0x00, 0xFF, 0xBF, 0x7F, 0xFF, 0x9F, 0xFF, 0xBF]) ∧
  ([0xFF20, 0xFF21, 0xFF22, 0xFF23, 0xFF24, 0xFF25, 0xFF26].map s.rawRead =
    [0xFF, 0x00, 0x00, 0xBF, 0x77, 0xF3, 0xF1]) ∧
  ([0xFF40, 0xFF41, 0xFF42, 0xFF43, 0xFF44, 0xFF45, 0xFF46, 0xFF47, 0xFF48, 0xFF49, 0xFF4A, 0xFF4B,
      0xFFFF].map s.rawRead =
    [0x91, 0x85, 0x00, 0x00, 0x00, 0x00, 0xFF, 0xFC, 0xFF, 0xFF, 0x00, 0x00, 0x00]) ∧
  (∀ a : Word, (a.toNat < 0xFF00 ∨ a.toNat = 0xFF03 ∨ (0xFF08 ≤ a.toNat ∧ a.toNat ≤ 0xFF0E) ∨ a.toNat = 0xFF15 ∨
      a.toNat = 0xFF1F ∨ (0xFF27 ≤ a.toNat ∧ a.toNat ≤ 0xFF3F) ∨ 0xFF4C ≤ a.toNat) → s.rawRead a = 0x00) ∧
  (s.joyAction = 0xFF ∧ s.joyDpad = 0xFF ∧ s.config.haltCycleSync = false ∧ s.config.dmaSourcePath = .decoded ∧
    s.config.bgEnableGates = true ∧ s.config.objEnableGates = true ∧ s.config.initMem = [] ∧ s.inputs = [])

/-- Power-on with a cartridge: too short an image gives the fault and no state; otherwise the image is in 0x0000..0x7FFF,
every other byte is `InitMem`'s, F is 0xB0 or 0x80 by the header checksum byte, and the rest is as after reset; an explicit
reset of any state of that machine leads to the same memory and registers (R128, R550, R552, R554). That it leaves the
joypad inputs and the queue is the model's reading (log entry 13). -/
def Obligations.PowerOnLoadsTheCartridge : Prop :=
  (∀ (config : Config) (rom : List Byte), rom.length < 0x150 → powerOn config rom = .fault .invalidCartridgeSize) ∧
  (∀ (config : Config) (rom : List Byte), 0x150 ≤ rom.length → ∃ t, powerOn config rom = .next t ∧
    (∀ a : Word, t.rawRead a =
      if a.toNat < min rom.length 0x8000 then rom.getD a.toNat 0 else Memory.read config.initMem a.toNat) ∧
    t = { State.reset with mem := t.mem, config := config,
                           f := if t.rawRead 0x014D = 0 then 0x80 else 0xB0 } ∧
    ∀ s : State, s.config = config → (∀ a : Word, a.toNat ≤ 0x7FFF → s.rawRead a = t.rawRead a) →
      (∀ a : Word, s.explicitReset.rawRead a = t.rawRead a) ∧
      s.explicitReset = { t with mem := s.explicitReset.mem, joyAction := s.joyAction, joyDpad := s.joyDpad,
                                 inputs := s.inputs })
end

