-- ==== Sys2Proof/Laws/Word.lean ====
section
/-! SUPPORT. A word and its two bytes. -/

namespace Sys2Proof

theorem toNat_wordOf (hi lo : Byte) : (wordOf hi lo).toNat = hi.toNat * 256 + lo.toNat := by
  simp only [wordOf, BitVec.toNat_ofNat]; omega

@[simp] theorem hiByte_wordOf (hi lo : Byte) : hiByte (wordOf hi lo) = hi := by
  apply BitVec.eq_of_toNat_eq
  simp only [hiByte, toNat_wordOf, BitVec.toNat_ofNat]; omega

@[simp] theorem loByte_wordOf (hi lo : Byte) : loByte (wordOf hi lo) = lo := by
  apply BitVec.eq_of_toNat_eq
  simp only [loByte, toNat_wordOf, BitVec.toNat_ofNat]; omega

@[simp] theorem wordOf_hiByte_loByte (v : Word) : wordOf (hiByte v) (loByte v) = v := by
  apply BitVec.eq_of_toNat_eq
  simp only [hiByte, loByte, toNat_wordOf, BitVec.toNat_ofNat]; omega

/-- Two bytes determine the word. -/
theorem wordOf_injective {hi lo hi' lo' : Byte} (h : wordOf hi lo = wordOf hi' lo') : hi = hi' ∧ lo = lo' :=
  ⟨by simpa using congrArg hiByte h, by simpa using congrArg loByte h⟩

end Sys2Proof
end

