-- ==== Sys2Proof/Laws/State.lean ====
section
/-! SUPPORT. One lemma per field per named update of the state: what the update leaves unchanged, and what it writes. -/

namespace Sys2Proof.Machine

variable (s : State)

/-! `rawWrite` -/

@[simp] theorem rawWrite_a (a : Word) (v : Byte) : (s.rawWrite a v).a = s.a := rfl
@[simp] theorem rawWrite_f (a : Word) (v : Byte) : (s.rawWrite a v).f = s.f := rfl
@[simp] theorem rawWrite_b (a : Word) (v : Byte) : (s.rawWrite a v).b = s.b := rfl
@[simp] theorem rawWrite_c (a : Word) (v : Byte) : (s.rawWrite a v).c = s.c := rfl
@[simp] theorem rawWrite_d (a : Word) (v : Byte) : (s.rawWrite a v).d = s.d := rfl
@[simp] theorem rawWrite_e (a : Word) (v : Byte) : (s.rawWrite a v).e = s.e := rfl
@[simp] theorem rawWrite_h (a : Word) (v : Byte) : (s.rawWrite a v).h = s.h := rfl
@[simp] theorem rawWrite_l (a : Word) (v : Byte) : (s.rawWrite a v).l = s.l := rfl
@[simp] theorem rawWrite_sp (a : Word) (v : Byte) : (s.rawWrite a v).sp = s.sp := rfl
@[simp] theorem rawWrite_pc (a : Word) (v : Byte) : (s.rawWrite a v).pc = s.pc := rfl
@[simp] theorem rawWrite_run (a : Word) (v : Byte) : (s.rawWrite a v).run = s.run := rfl
@[simp] theorem rawWrite_ime (a : Word) (v : Byte) : (s.rawWrite a v).ime = s.ime := rfl
@[simp] theorem rawWrite_eiLatch (a : Word) (v : Byte) : (s.rawWrite a v).eiLatch = s.eiLatch := rfl
@[simp] theorem rawWrite_cpuCycles (a : Word) (v : Byte) : (s.rawWrite a v).cpuCycles = s.cpuCycles := rfl
@[simp] theorem rawWrite_master (a : Word) (v : Byte) : (s.rawWrite a v).master = s.master := rfl
@[simp] theorem rawWrite_panicInfo (a : Word) (v : Byte) : (s.rawWrite a v).panicInfo = s.panicInfo := rfl
@[simp] theorem rawWrite_dmaCountdown (a : Word) (v : Byte) : (s.rawWrite a v).dmaCountdown = s.dmaCountdown := rfl
@[simp] theorem rawWrite_dmaSource (a : Word) (v : Byte) : (s.rawWrite a v).dmaSource = s.dmaSource := rfl
@[simp] theorem rawWrite_lengthTimer (a : Word) (v : Byte) : (s.rawWrite a v).lengthTimer = s.lengthTimer := rfl
@[simp] theorem rawWrite_frameSync (a : Word) (v : Byte) : (s.rawWrite a v).frameSync = s.frameSync := rfl
@[simp] theorem rawWrite_windowLine (a : Word) (v : Byte) : (s.rawWrite a v).windowLine = s.windowLine := rfl
@[simp] theorem rawWrite_bgIndex (a : Word) (v : Byte) : (s.rawWrite a v).bgIndex = s.bgIndex := rfl
@[simp] theorem rawWrite_back (a : Word) (v : Byte) : (s.rawWrite a v).back = s.back := rfl
@[simp] theorem rawWrite_front (a : Word) (v : Byte) : (s.rawWrite a v).front = s.front := rfl
@[simp] theorem rawWrite_joyAction (a : Word) (v : Byte) : (s.rawWrite a v).joyAction = s.joyAction := rfl
@[simp] theorem rawWrite_joyDpad (a : Word) (v : Byte) : (s.rawWrite a v).joyDpad = s.joyDpad := rfl
@[simp] theorem rawWrite_config (a : Word) (v : Byte) : (s.rawWrite a v).config = s.config := rfl
@[simp] theorem rawWrite_inputs (a : Word) (v : Byte) : (s.rawWrite a v).inputs = s.inputs := rfl

/-! `setIf` -/

@[simp] theorem setIf_a (i : Nat) : (s.setIf i).a = s.a := rfl
@[simp] theorem setIf_f (i : Nat) : (s.setIf i).f = s.f := rfl
@[simp] theorem setIf_b (i : Nat) : (s.setIf i).b = s.b := rfl
@[simp] theorem setIf_c (i : Nat) : (s.setIf i).c = s.c := rfl
@[simp] theorem setIf_d (i : Nat) : (s.setIf i).d = s.d := rfl
@[simp] theorem setIf_e (i : Nat) : (s.setIf i).e = s.e := rfl
@[simp] theorem setIf_h (i : Nat) : (s.setIf i).h = s.h := rfl
@[simp] theorem setIf_l (i : Nat) : (s.setIf i).l = s.l := rfl
@[simp] theorem setIf_sp (i : Nat) : (s.setIf i).sp = s.sp := rfl
@[simp] theorem setIf_pc (i : Nat) : (s.setIf i).pc = s.pc := rfl
@[simp] theorem setIf_run (i : Nat) : (s.setIf i).run = s.run := rfl
@[simp] theorem setIf_ime (i : Nat) : (s.setIf i).ime = s.ime := rfl
@[simp] theorem setIf_eiLatch (i : Nat) : (s.setIf i).eiLatch = s.eiLatch := rfl
@[simp] theorem setIf_cpuCycles (i : Nat) : (s.setIf i).cpuCycles = s.cpuCycles := rfl
@[simp] theorem setIf_master (i : Nat) : (s.setIf i).master = s.master := rfl
@[simp] theorem setIf_panicInfo (i : Nat) : (s.setIf i).panicInfo = s.panicInfo := rfl
@[simp] theorem setIf_dmaCountdown (i : Nat) : (s.setIf i).dmaCountdown = s.dmaCountdown := rfl
@[simp] theorem setIf_dmaSource (i : Nat) : (s.setIf i).dmaSource = s.dmaSource := rfl
@[simp] theorem setIf_lengthTimer (i : Nat) : (s.setIf i).lengthTimer = s.lengthTimer := rfl
@[simp] theorem setIf_frameSync (i : Nat) : (s.setIf i).frameSync = s.frameSync := rfl
@[simp] theorem setIf_windowLine (i : Nat) : (s.setIf i).windowLine = s.windowLine := rfl
@[simp] theorem setIf_bgIndex (i : Nat) : (s.setIf i).bgIndex = s.bgIndex := rfl
@[simp] theorem setIf_back (i : Nat) : (s.setIf i).back = s.back := rfl
@[simp] theorem setIf_front (i : Nat) : (s.setIf i).front = s.front := rfl
@[simp] theorem setIf_joyAction (i : Nat) : (s.setIf i).joyAction = s.joyAction := rfl
@[simp] theorem setIf_joyDpad (i : Nat) : (s.setIf i).joyDpad = s.joyDpad := rfl
@[simp] theorem setIf_config (i : Nat) : (s.setIf i).config = s.config := rfl
@[simp] theorem setIf_inputs (i : Nat) : (s.setIf i).inputs = s.inputs := rfl

/-! `coincidenceRecheck` -/

@[simp] theorem coincidenceRecheck_a : (s.coincidenceRecheck).a = s.a := rfl
@[simp] theorem coincidenceRecheck_f : (s.coincidenceRecheck).f = s.f := rfl
@[simp] theorem coincidenceRecheck_b : (s.coincidenceRecheck).b = s.b := rfl
@[simp] theorem coincidenceRecheck_c : (s.coincidenceRecheck).c = s.c := rfl
@[simp] theorem coincidenceRecheck_d : (s.coincidenceRecheck).d = s.d := rfl
@[simp] theorem coincidenceRecheck_e : (s.coincidenceRecheck).e = s.e := rfl
@[simp] theorem coincidenceRecheck_h : (s.coincidenceRecheck).h = s.h := rfl
@[simp] theorem coincidenceRecheck_l : (s.coincidenceRecheck).l = s.l := rfl
@[simp] theorem coincidenceRecheck_sp : (s.coincidenceRecheck).sp = s.sp := rfl
@[simp] theorem coincidenceRecheck_pc : (s.coincidenceRecheck).pc = s.pc := rfl
@[simp] theorem coincidenceRecheck_run : (s.coincidenceRecheck).run = s.run := rfl
@[simp] theorem coincidenceRecheck_ime : (s.coincidenceRecheck).ime = s.ime := rfl
@[simp] theorem coincidenceRecheck_eiLatch : (s.coincidenceRecheck).eiLatch = s.eiLatch := rfl
@[simp] theorem coincidenceRecheck_cpuCycles : (s.coincidenceRecheck).cpuCycles = s.cpuCycles := rfl
@[simp] theorem coincidenceRecheck_master : (s.coincidenceRecheck).master = s.master := rfl
@[simp] theorem coincidenceRecheck_panicInfo : (s.coincidenceRecheck).panicInfo = s.panicInfo := rfl
@[simp] theorem coincidenceRecheck_dmaCountdown : (s.coincidenceRecheck).dmaCountdown = s.dmaCountdown := rfl
@[simp] theorem coincidenceRecheck_dmaSource : (s.coincidenceRecheck).dmaSource = s.dmaSource := rfl
@[simp] theorem coincidenceRecheck_lengthTimer : (s.coincidenceRecheck).lengthTimer = s.lengthTimer := rfl
@[simp] theorem coincidenceRecheck_frameSync : (s.coincidenceRecheck).frameSync = s.frameSync := rfl
@[simp] theorem coincidenceRecheck_windowLine : (s.coincidenceRecheck).windowLine = s.windowLine := rfl
@[simp] theorem coincidenceRecheck_bgIndex : (s.coincidenceRecheck).bgIndex = s.bgIndex := rfl
@[simp] theorem coincidenceRecheck_back : (s.coincidenceRecheck).back = s.back := rfl
@[simp] theorem coincidenceRecheck_front : (s.coincidenceRecheck).front = s.front := rfl
@[simp] theorem coincidenceRecheck_joyAction : (s.coincidenceRecheck).joyAction = s.joyAction := rfl
@[simp] theorem coincidenceRecheck_joyDpad : (s.coincidenceRecheck).joyDpad = s.joyDpad := rfl
@[simp] theorem coincidenceRecheck_config : (s.coincidenceRecheck).config = s.config := rfl
@[simp] theorem coincidenceRecheck_inputs : (s.coincidenceRecheck).inputs = s.inputs := rfl

/-! `charge` -/

@[simp] theorem charge_a (n : Nat) : (s.charge n).a = s.a := rfl
@[simp] theorem charge_f (n : Nat) : (s.charge n).f = s.f := rfl
@[simp] theorem charge_b (n : Nat) : (s.charge n).b = s.b := rfl
@[simp] theorem charge_c (n : Nat) : (s.charge n).c = s.c := rfl
@[simp] theorem charge_d (n : Nat) : (s.charge n).d = s.d := rfl
@[simp] theorem charge_e (n : Nat) : (s.charge n).e = s.e := rfl
@[simp] theorem charge_h (n : Nat) : (s.charge n).h = s.h := rfl
@[simp] theorem charge_l (n : Nat) : (s.charge n).l = s.l := rfl
@[simp] theorem charge_sp (n : Nat) : (s.charge n).sp = s.sp := rfl
@[simp] theorem charge_pc (n : Nat) : (s.charge n).pc = s.pc := rfl
@[simp] theorem charge_run (n : Nat) : (s.charge n).run = s.run := rfl
@[simp] theorem charge_ime (n : Nat) : (s.charge n).ime = s.ime := rfl
@[simp] theorem charge_eiLatch (n : Nat) : (s.charge n).eiLatch = s.eiLatch := rfl
@[simp] theorem charge_master (n : Nat) : (s.charge n).master = s.master := rfl
@[simp] theorem charge_panicInfo (n : Nat) : (s.charge n).panicInfo = s.panicInfo := rfl
@[simp] theorem charge_mem (n : Nat) : (s.charge n).mem = s.mem := rfl
@[simp] theorem charge_dmaCountdown (n : Nat) : (s.charge n).dmaCountdown = s.dmaCountdown := rfl
@[simp] theorem charge_dmaSource (n : Nat) : (s.charge n).dmaSource = s.dmaSource := rfl
@[simp] theorem charge_lengthTimer (n : Nat) : (s.charge n).lengthTimer = s.lengthTimer := rfl
@[simp] theorem charge_frameSync (n : Nat) : (s.charge n).frameSync = s.frameSync := rfl
@[simp] theorem charge_windowLine (n : Nat) : (s.charge n).windowLine = s.windowLine := rfl
@[simp] theorem charge_bgIndex (n : Nat) : (s.charge n).bgIndex = s.bgIndex := rfl
@[simp] theorem charge_back (n : Nat) : (s.charge n).back = s.back := rfl
@[simp] theorem charge_front (n : Nat) : (s.charge n).front = s.front := rfl
@[simp] theorem charge_joyAction (n : Nat) : (s.charge n).joyAction = s.joyAction := rfl
@[simp] theorem charge_joyDpad (n : Nat) : (s.charge n).joyDpad = s.joyDpad := rfl
@[simp] theorem charge_config (n : Nat) : (s.charge n).config = s.config := rfl
@[simp] theorem charge_inputs (n : Nat) : (s.charge n).inputs = s.inputs := rfl

/-! `setFlags` -/

@[simp] theorem setFlags_a (fl : Flags) : (s.setFlags fl).a = s.a := rfl
@[simp] theorem setFlags_b (fl : Flags) : (s.setFlags fl).b = s.b := rfl
@[simp] theorem setFlags_c (fl : Flags) : (s.setFlags fl).c = s.c := rfl
@[simp] theorem setFlags_d (fl : Flags) : (s.setFlags fl).d = s.d := rfl
@[simp] theorem setFlags_e (fl : Flags) : (s.setFlags fl).e = s.e := rfl
@[simp] theorem setFlags_h (fl : Flags) : (s.setFlags fl).h = s.h := rfl
@[simp] theorem setFlags_l (fl : Flags) : (s.setFlags fl).l = s.l := rfl
@[simp] theorem setFlags_sp (fl : Flags) : (s.setFlags fl).sp = s.sp := rfl
@[simp] theorem setFlags_pc (fl : Flags) : (s.setFlags fl).pc = s.pc := rfl
@[simp] theorem setFlags_run (fl : Flags) : (s.setFlags fl).run = s.run := rfl
@[simp] theorem setFlags_ime (fl : Flags) : (s.setFlags fl).ime = s.ime := rfl
@[simp] theorem setFlags_eiLatch (fl : Flags) : (s.setFlags fl).eiLatch = s.eiLatch := rfl
@[simp] theorem setFlags_cpuCycles (fl : Flags) : (s.setFlags fl).cpuCycles = s.cpuCycles := rfl
@[simp] theorem setFlags_master (fl : Flags) : (s.setFlags fl).master = s.master := rfl
@[simp] theorem setFlags_panicInfo (fl : Flags) : (s.setFlags fl).panicInfo = s.panicInfo := rfl
@[simp] theorem setFlags_mem (fl : Flags) : (s.setFlags fl).mem = s.mem := rfl
@[simp] theorem setFlags_dmaCountdown (fl : Flags) : (s.setFlags fl).dmaCountdown = s.dmaCountdown := rfl
@[simp] theorem setFlags_dmaSource (fl : Flags) : (s.setFlags fl).dmaSource = s.dmaSource := rfl
@[simp] theorem setFlags_lengthTimer (fl : Flags) : (s.setFlags fl).lengthTimer = s.lengthTimer := rfl
@[simp] theorem setFlags_frameSync (fl : Flags) : (s.setFlags fl).frameSync = s.frameSync := rfl
@[simp] theorem setFlags_windowLine (fl : Flags) : (s.setFlags fl).windowLine = s.windowLine := rfl
@[simp] theorem setFlags_bgIndex (fl : Flags) : (s.setFlags fl).bgIndex = s.bgIndex := rfl
@[simp] theorem setFlags_back (fl : Flags) : (s.setFlags fl).back = s.back := rfl
@[simp] theorem setFlags_front (fl : Flags) : (s.setFlags fl).front = s.front := rfl
@[simp] theorem setFlags_joyAction (fl : Flags) : (s.setFlags fl).joyAction = s.joyAction := rfl
@[simp] theorem setFlags_joyDpad (fl : Flags) : (s.setFlags fl).joyDpad = s.joyDpad := rfl
@[simp] theorem setFlags_config (fl : Flags) : (s.setFlags fl).config = s.config := rfl
@[simp] theorem setFlags_inputs (fl : Flags) : (s.setFlags fl).inputs = s.inputs := rfl

/-! `writeF` -/

@[simp] theorem writeF_a (v : Byte) : (s.writeF v).a = s.a := rfl
@[simp] theorem writeF_b (v : Byte) : (s.writeF v).b = s.b := rfl
@[simp] theorem writeF_c (v : Byte) : (s.writeF v).c = s.c := rfl
@[simp] theorem writeF_d (v : Byte) : (s.writeF v).d = s.d := rfl
@[simp] theorem writeF_e (v : Byte) : (s.writeF v).e = s.e := rfl
@[simp] theorem writeF_h (v : Byte) : (s.writeF v).h = s.h := rfl
@[simp] theorem writeF_l (v : Byte) : (s.writeF v).l = s.l := rfl
@[simp] theorem writeF_sp (v : Byte) : (s.writeF v).sp = s.sp := rfl
@[simp] theorem writeF_pc (v : Byte) : (s.writeF v).pc = s.pc := rfl
@[simp] theorem writeF_run (v : Byte) : (s.writeF v).run = s.run := rfl
@[simp] theorem writeF_ime (v : Byte) : (s.writeF v).ime = s.ime := rfl
@[simp] theorem writeF_eiLatch (v : Byte) : (s.writeF v).eiLatch = s.eiLatch := rfl
@[simp] theorem writeF_cpuCycles (v : Byte) : (s.writeF v).cpuCycles = s.cpuCycles := rfl
@[simp] theorem writeF_master (v : Byte) : (s.writeF v).master = s.master := rfl
@[simp] theorem writeF_panicInfo (v : Byte) : (s.writeF v).panicInfo = s.panicInfo := rfl
@[simp] theorem writeF_mem (v : Byte) : (s.writeF v).mem = s.mem := rfl
@[simp] theorem writeF_dmaCountdown (v : Byte) : (s.writeF v).dmaCountdown = s.dmaCountdown := rfl
@[simp] theorem writeF_dmaSource (v : Byte) : (s.writeF v).dmaSource = s.dmaSource := rfl
@[simp] theorem writeF_lengthTimer (v : Byte) : (s.writeF v).lengthTimer = s.lengthTimer := rfl
@[simp] theorem writeF_frameSync (v : Byte) : (s.writeF v).frameSync = s.frameSync := rfl
@[simp] theorem writeF_windowLine (v : Byte) : (s.writeF v).windowLine = s.windowLine := rfl
@[simp] theorem writeF_bgIndex (v : Byte) : (s.writeF v).bgIndex = s.bgIndex := rfl
@[simp] theorem writeF_back (v : Byte) : (s.writeF v).back = s.back := rfl
@[simp] theorem writeF_front (v : Byte) : (s.writeF v).front = s.front := rfl
@[simp] theorem writeF_joyAction (v : Byte) : (s.writeF v).joyAction = s.joyAction := rfl
@[simp] theorem writeF_joyDpad (v : Byte) : (s.writeF v).joyDpad = s.joyDpad := rfl
@[simp] theorem writeF_config (v : Byte) : (s.writeF v).config = s.config := rfl
@[simp] theorem writeF_inputs (v : Byte) : (s.writeF v).inputs = s.inputs := rfl

/-! `setHl` -/

@[simp] theorem setHl_a (v : Word) : (s.setHl v).a = s.a := rfl
@[simp] theorem setHl_f (v : Word) : (s.setHl v).f = s.f := rfl
@[simp] theorem setHl_b (v : Word) : (s.setHl v).b = s.b := rfl
@[simp] theorem setHl_c (v : Word) : (s.setHl v).c = s.c := rfl
@[simp] theorem setHl_d (v : Word) : (s.setHl v).d = s.d := rfl
@[simp] theorem setHl_e (v : Word) : (s.setHl v).e = s.e := rfl
@[simp] theorem setHl_sp (v : Word) : (s.setHl v).sp = s.sp := rfl
@[simp] theorem setHl_pc (v : Word) : (s.setHl v).pc = s.pc := rfl
@[simp] theorem setHl_run (v : Word) : (s.setHl v).run = s.run := rfl
@[simp] theorem setHl_ime (v : Word) : (s.setHl v).ime = s.ime := rfl
@[simp] theorem setHl_eiLatch (v : Word) : (s.setHl v).eiLatch = s.eiLatch := rfl
@[simp] theorem setHl_cpuCycles (v : Word) : (s.setHl v).cpuCycles = s.cpuCycles := rfl
@[simp] theorem setHl_master (v : Word) : (s.setHl v).master = s.master := rfl
@[simp] theorem setHl_panicInfo (v : Word) : (s.setHl v).panicInfo = s.panicInfo := rfl
@[simp] theorem setHl_mem (v : Word) : (s.setHl v).mem = s.mem := rfl
@[simp] theorem setHl_dmaCountdown (v : Word) : (s.setHl v).dmaCountdown = s.dmaCountdown := rfl
@[simp] theorem setHl_dmaSource (v : Word) : (s.setHl v).dmaSource = s.dmaSource := rfl
@[simp] theorem setHl_lengthTimer (v : Word) : (s.setHl v).lengthTimer = s.lengthTimer := rfl
@[simp] theorem setHl_frameSync (v : Word) : (s.setHl v).frameSync = s.frameSync := rfl
@[simp] theorem setHl_windowLine (v : Word) : (s.setHl v).windowLine = s.windowLine := rfl
@[simp] theorem setHl_bgIndex (v : Word) : (s.setHl v).bgIndex = s.bgIndex := rfl
@[simp] theorem setHl_back (v : Word) : (s.setHl v).back = s.back := rfl
@[simp] theorem setHl_front (v : Word) : (s.setHl v).front = s.front := rfl
@[simp] theorem setHl_joyAction (v : Word) : (s.setHl v).joyAction = s.joyAction := rfl
@[simp] theorem setHl_joyDpad (v : Word) : (s.setHl v).joyDpad = s.joyDpad := rfl
@[simp] theorem setHl_config (v : Word) : (s.setHl v).config = s.config := rfl
@[simp] theorem setHl_inputs (v : Word) : (s.setHl v).inputs = s.inputs := rfl

/-! `dropTop` -/

@[simp] theorem dropTop_a : (s.dropTop).a = s.a := rfl
@[simp] theorem dropTop_f : (s.dropTop).f = s.f := rfl
@[simp] theorem dropTop_b : (s.dropTop).b = s.b := rfl
@[simp] theorem dropTop_c : (s.dropTop).c = s.c := rfl
@[simp] theorem dropTop_d : (s.dropTop).d = s.d := rfl
@[simp] theorem dropTop_e : (s.dropTop).e = s.e := rfl
@[simp] theorem dropTop_h : (s.dropTop).h = s.h := rfl
@[simp] theorem dropTop_l : (s.dropTop).l = s.l := rfl
@[simp] theorem dropTop_pc : (s.dropTop).pc = s.pc := rfl
@[simp] theorem dropTop_run : (s.dropTop).run = s.run := rfl
@[simp] theorem dropTop_ime : (s.dropTop).ime = s.ime := rfl
@[simp] theorem dropTop_eiLatch : (s.dropTop).eiLatch = s.eiLatch := rfl
@[simp] theorem dropTop_cpuCycles : (s.dropTop).cpuCycles = s.cpuCycles := rfl
@[simp] theorem dropTop_master : (s.dropTop).master = s.master := rfl
@[simp] theorem dropTop_panicInfo : (s.dropTop).panicInfo = s.panicInfo := rfl
@[simp] theorem dropTop_mem : (s.dropTop).mem = s.mem := rfl
@[simp] theorem dropTop_dmaCountdown : (s.dropTop).dmaCountdown = s.dmaCountdown := rfl
@[simp] theorem dropTop_dmaSource : (s.dropTop).dmaSource = s.dmaSource := rfl
@[simp] theorem dropTop_lengthTimer : (s.dropTop).lengthTimer = s.lengthTimer := rfl
@[simp] theorem dropTop_frameSync : (s.dropTop).frameSync = s.frameSync := rfl
@[simp] theorem dropTop_windowLine : (s.dropTop).windowLine = s.windowLine := rfl
@[simp] theorem dropTop_bgIndex : (s.dropTop).bgIndex = s.bgIndex := rfl
@[simp] theorem dropTop_back : (s.dropTop).back = s.back := rfl
@[simp] theorem dropTop_front : (s.dropTop).front = s.front := rfl
@[simp] theorem dropTop_joyAction : (s.dropTop).joyAction = s.joyAction := rfl
@[simp] theorem dropTop_joyDpad : (s.dropTop).joyDpad = s.joyDpad := rfl
@[simp] theorem dropTop_config : (s.dropTop).config = s.config := rfl
@[simp] theorem dropTop_inputs : (s.dropTop).inputs = s.inputs := rfl

/-! `setReg8` -/

@[simp] theorem setReg8_f (r : Reg8) (v : Byte) : (s.setReg8 r v).f = s.f := by cases r <;> rfl
@[simp] theorem setReg8_sp (r : Reg8) (v : Byte) : (s.setReg8 r v).sp = s.sp := by cases r <;> rfl
@[simp] theorem setReg8_pc (r : Reg8) (v : Byte) : (s.setReg8 r v).pc = s.pc := by cases r <;> rfl
@[simp] theorem setReg8_run (r : Reg8) (v : Byte) : (s.setReg8 r v).run = s.run := by cases r <;> rfl
@[simp] theorem setReg8_ime (r : Reg8) (v : Byte) : (s.setReg8 r v).ime = s.ime := by cases r <;> rfl
@[simp] theorem setReg8_eiLatch (r : Reg8) (v : Byte) : (s.setReg8 r v).eiLatch = s.eiLatch := by cases r <;> rfl
@[simp] theorem setReg8_cpuCycles (r : Reg8) (v : Byte) : (s.setReg8 r v).cpuCycles = s.cpuCycles := by cases r <;> rfl
@[simp] theorem setReg8_master (r : Reg8) (v : Byte) : (s.setReg8 r v).master = s.master := by cases r <;> rfl
@[simp] theorem setReg8_panicInfo (r : Reg8) (v : Byte) : (s.setReg8 r v).panicInfo = s.panicInfo := by cases r <;> rfl
@[simp] theorem setReg8_mem (r : Reg8) (v : Byte) : (s.setReg8 r v).mem = s.mem := by cases r <;> rfl
@[simp] theorem setReg8_dmaCountdown (r : Reg8) (v : Byte) : (s.setReg8 r v).dmaCountdown = s.dmaCountdown := by cases r <;> rfl
@[simp] theorem setReg8_dmaSource (r : Reg8) (v : Byte) : (s.setReg8 r v).dmaSource = s.dmaSource := by cases r <;> rfl
@[simp] theorem setReg8_lengthTimer (r : Reg8) (v : Byte) : (s.setReg8 r v).lengthTimer = s.lengthTimer := by cases r <;> rfl
@[simp] theorem setReg8_frameSync (r : Reg8) (v : Byte) : (s.setReg8 r v).frameSync = s.frameSync := by cases r <;> rfl
@[simp] theorem setReg8_windowLine (r : Reg8) (v : Byte) : (s.setReg8 r v).windowLine = s.windowLine := by cases r <;> rfl
@[simp] theorem setReg8_bgIndex (r : Reg8) (v : Byte) : (s.setReg8 r v).bgIndex = s.bgIndex := by cases r <;> rfl
@[simp] theorem setReg8_back (r : Reg8) (v : Byte) : (s.setReg8 r v).back = s.back := by cases r <;> rfl
@[simp] theorem setReg8_front (r : Reg8) (v : Byte) : (s.setReg8 r v).front = s.front := by cases r <;> rfl
@[simp] theorem setReg8_joyAction (r : Reg8) (v : Byte) : (s.setReg8 r v).joyAction = s.joyAction := by cases r <;> rfl
@[simp] theorem setReg8_joyDpad (r : Reg8) (v : Byte) : (s.setReg8 r v).joyDpad = s.joyDpad := by cases r <;> rfl
@[simp] theorem setReg8_config (r : Reg8) (v : Byte) : (s.setReg8 r v).config = s.config := by cases r <;> rfl
@[simp] theorem setReg8_inputs (r : Reg8) (v : Byte) : (s.setReg8 r v).inputs = s.inputs := by cases r <;> rfl

/-! `setReg16` -/

@[simp] theorem setReg16_a (p : Reg16) (v : Word) : (s.setReg16 p v).a = s.a := by cases p <;> rfl
@[simp] theorem setReg16_f (p : Reg16) (v : Word) : (s.setReg16 p v).f = s.f := by cases p <;> rfl
@[simp] theorem setReg16_pc (p : Reg16) (v : Word) : (s.setReg16 p v).pc = s.pc := by cases p <;> rfl
@[simp] theorem setReg16_run (p : Reg16) (v : Word) : (s.setReg16 p v).run = s.run := by cases p <;> rfl
@[simp] theorem setReg16_ime (p : Reg16) (v : Word) : (s.setReg16 p v).ime = s.ime := by cases p <;> rfl
@[simp] theorem setReg16_eiLatch (p : Reg16) (v : Word) : (s.setReg16 p v).eiLatch = s.eiLatch := by cases p <;> rfl
@[simp] theorem setReg16_cpuCycles (p : Reg16) (v : Word) : (s.setReg16 p v).cpuCycles = s.cpuCycles := by cases p <;> rfl
@[simp] theorem setReg16_master (p : Reg16) (v : Word) : (s.setReg16 p v).master = s.master := by cases p <;> rfl
@[simp] theorem setReg16_panicInfo (p : Reg16) (v : Word) : (s.setReg16 p v).panicInfo = s.panicInfo := by cases p <;> rfl
@[simp] theorem setReg16_mem (p : Reg16) (v : Word) : (s.setReg16 p v).mem = s.mem := by cases p <;> rfl
@[simp] theorem setReg16_dmaCountdown (p : Reg16) (v : Word) : (s.setReg16 p v).dmaCountdown = s.dmaCountdown := by cases p <;> rfl
@[simp] theorem setReg16_dmaSource (p : Reg16) (v : Word) : (s.setReg16 p v).dmaSource = s.dmaSource := by cases p <;> rfl
@[simp] theorem setReg16_lengthTimer (p : Reg16) (v : Word) : (s.setReg16 p v).lengthTimer = s.lengthTimer := by cases p <;> rfl
@[simp] theorem setReg16_frameSync (p : Reg16) (v : Word) : (s.setReg16 p v).frameSync = s.frameSync := by cases p <;> rfl
@[simp] theorem setReg16_windowLine (p : Reg16) (v : Word) : (s.setReg16 p v).windowLine = s.windowLine := by cases p <;> rfl
@[simp] theorem setReg16_bgIndex (p : Reg16) (v : Word) : (s.setReg16 p v).bgIndex = s.bgIndex := by cases p <;> rfl
@[simp] theorem setReg16_back (p : Reg16) (v : Word) : (s.setReg16 p v).back = s.back := by cases p <;> rfl
@[simp] theorem setReg16_front (p : Reg16) (v : Word) : (s.setReg16 p v).front = s.front := by cases p <;> rfl
@[simp] theorem setReg16_joyAction (p : Reg16) (v : Word) : (s.setReg16 p v).joyAction = s.joyAction := by cases p <;> rfl
@[simp] theorem setReg16_joyDpad (p : Reg16) (v : Word) : (s.setReg16 p v).joyDpad = s.joyDpad := by cases p <;> rfl
@[simp] theorem setReg16_config (p : Reg16) (v : Word) : (s.setReg16 p v).config = s.config := by cases p <;> rfl
@[simp] theorem setReg16_inputs (p : Reg16) (v : Word) : (s.setReg16 p v).inputs = s.inputs := by cases p <;> rfl

/-! `setStackReg` -/

@[simp] theorem setStackReg_sp (p : StackReg) (v : Word) : (s.setStackReg p v).sp = s.sp := by cases p <;> rfl
@[simp] theorem setStackReg_pc (p : StackReg) (v : Word) : (s.setStackReg p v).pc = s.pc := by cases p <;> rfl
@[simp] theorem setStackReg_run (p : StackReg) (v : Word) : (s.setStackReg p v).run = s.run := by cases p <;> rfl
@[simp] theorem setStackReg_ime (p : StackReg) (v : Word) : (s.setStackReg p v).ime = s.ime := by cases p <;> rfl
@[simp] theorem setStackReg_eiLatch (p : StackReg) (v : Word) : (s.setStackReg p v).eiLatch = s.eiLatch := by cases p <;> rfl
@[simp] theorem setStackReg_cpuCycles (p : StackReg) (v : Word) : (s.setStackReg p v).cpuCycles = s.cpuCycles := by cases p <;> rfl
@[simp] theorem setStackReg_master (p : StackReg) (v : Word) : (s.setStackReg p v).master = s.master := by cases p <;> rfl
@[simp] theorem setStackReg_panicInfo (p : StackReg) (v : Word) : (s.setStackReg p v).panicInfo = s.panicInfo := by cases p <;> rfl
@[simp] theorem setStackReg_mem (p : StackReg) (v : Word) : (s.setStackReg p v).mem = s.mem := by cases p <;> rfl
@[simp] theorem setStackReg_dmaCountdown (p : StackReg) (v : Word) : (s.setStackReg p v).dmaCountdown = s.dmaCountdown := by cases p <;> rfl
@[simp] theorem setStackReg_dmaSource (p : StackReg) (v : Word) : (s.setStackReg p v).dmaSource = s.dmaSource := by cases p <;> rfl
@[simp] theorem setStackReg_lengthTimer (p : StackReg) (v : Word) : (s.setStackReg p v).lengthTimer = s.lengthTimer := by cases p <;> rfl
@[simp] theorem setStackReg_frameSync (p : StackReg) (v : Word) : (s.setStackReg p v).frameSync = s.frameSync := by cases p <;> rfl
@[simp] theorem setStackReg_windowLine (p : StackReg) (v : Word) : (s.setStackReg p v).windowLine = s.windowLine := by cases p <;> rfl
@[simp] theorem setStackReg_bgIndex (p : StackReg) (v : Word) : (s.setStackReg p v).bgIndex = s.bgIndex := by cases p <;> rfl
@[simp] theorem setStackReg_back (p : StackReg) (v : Word) : (s.setStackReg p v).back = s.back := by cases p <;> rfl
@[simp] theorem setStackReg_front (p : StackReg) (v : Word) : (s.setStackReg p v).front = s.front := by cases p <;> rfl
@[simp] theorem setStackReg_joyAction (p : StackReg) (v : Word) : (s.setStackReg p v).joyAction = s.joyAction := by cases p <;> rfl
@[simp] theorem setStackReg_joyDpad (p : StackReg) (v : Word) : (s.setStackReg p v).joyDpad = s.joyDpad := by cases p <;> rfl
@[simp] theorem setStackReg_config (p : StackReg) (v : Word) : (s.setStackReg p v).config = s.config := by cases p <;> rfl
@[simp] theorem setStackReg_inputs (p : StackReg) (v : Word) : (s.setStackReg p v).inputs = s.inputs := by cases p <;> rfl

/-! `reloadLength` -/

@[simp] theorem reloadLength_a (a : Word) (v : Byte) : (s.reloadLength a v).a = s.a := rfl
@[simp] theorem reloadLength_f (a : Word) (v : Byte) : (s.reloadLength a v).f = s.f := rfl
@[simp] theorem reloadLength_b (a : Word) (v : Byte) : (s.reloadLength a v).b = s.b := rfl
@[simp] theorem reloadLength_c (a : Word) (v : Byte) : (s.reloadLength a v).c = s.c := rfl
@[simp] theorem reloadLength_d (a : Word) (v : Byte) : (s.reloadLength a v).d = s.d := rfl
@[simp] theorem reloadLength_e (a : Word) (v : Byte) : (s.reloadLength a v).e = s.e := rfl
@[simp] theorem reloadLength_h (a : Word) (v : Byte) : (s.reloadLength a v).h = s.h := rfl
@[simp] theorem reloadLength_l (a : Word) (v : Byte) : (s.reloadLength a v).l = s.l := rfl
@[simp] theorem reloadLength_sp (a : Word) (v : Byte) : (s.reloadLength a v).sp = s.sp := rfl
@[simp] theorem reloadLength_pc (a : Word) (v : Byte) : (s.reloadLength a v).pc = s.pc := rfl
@[simp] theorem reloadLength_run (a : Word) (v : Byte) : (s.reloadLength a v).run = s.run := rfl
@[simp] theorem reloadLength_ime (a : Word) (v : Byte) : (s.reloadLength a v).ime = s.ime := rfl
@[simp] theorem reloadLength_eiLatch (a : Word) (v : Byte) : (s.reloadLength a v).eiLatch = s.eiLatch := rfl
@[simp] theorem reloadLength_cpuCycles (a : Word) (v : Byte) : (s.reloadLength a v).cpuCycles = s.cpuCycles := rfl
@[simp] theorem reloadLength_master (a : Word) (v : Byte) : (s.reloadLength a v).master = s.master := rfl
@[simp] theorem reloadLength_panicInfo (a : Word) (v : Byte) : (s.reloadLength a v).panicInfo = s.panicInfo := rfl
@[simp] theorem reloadLength_mem (a : Word) (v : Byte) : (s.reloadLength a v).mem = s.mem := rfl
@[simp] theorem reloadLength_dmaCountdown (a : Word) (v : Byte) : (s.reloadLength a v).dmaCountdown = s.dmaCountdown := rfl
@[simp] theorem reloadLength_dmaSource (a : Word) (v : Byte) : (s.reloadLength a v).dmaSource = s.dmaSource := rfl
@[simp] theorem reloadLength_frameSync (a : Word) (v : Byte) : (s.reloadLength a v).frameSync = s.frameSync := rfl
@[simp] theorem reloadLength_windowLine (a : Word) (v : Byte) : (s.reloadLength a v).windowLine = s.windowLine := rfl
@[simp] theorem reloadLength_bgIndex (a : Word) (v : Byte) : (s.reloadLength a v).bgIndex = s.bgIndex := rfl
@[simp] theorem reloadLength_back (a : Word) (v : Byte) : (s.reloadLength a v).back = s.back := rfl
@[simp] theorem reloadLength_front (a : Word) (v : Byte) : (s.reloadLength a v).front = s.front := rfl
@[simp] theorem reloadLength_joyAction (a : Word) (v : Byte) : (s.reloadLength a v).joyAction = s.joyAction := rfl
@[simp] theorem reloadLength_joyDpad (a : Word) (v : Byte) : (s.reloadLength a v).joyDpad = s.joyDpad := rfl
@[simp] theorem reloadLength_config (a : Word) (v : Byte) : (s.reloadLength a v).config = s.config := rfl
@[simp] theorem reloadLength_inputs (a : Word) (v : Byte) : (s.reloadLength a v).inputs = s.inputs := rfl

/-! `raisePanic` -/

@[simp] theorem raisePanic_a (info : PanicInfo) : (s.raisePanic info).a = s.a := rfl
@[simp] theorem raisePanic_f (info : PanicInfo) : (s.raisePanic info).f = s.f := rfl
@[simp] theorem raisePanic_b (info : PanicInfo) : (s.raisePanic info).b = s.b := rfl
@[simp] theorem raisePanic_c (info : PanicInfo) : (s.raisePanic info).c = s.c := rfl
@[simp] theorem raisePanic_d (info : PanicInfo) : (s.raisePanic info).d = s.d := rfl
@[simp] theorem raisePanic_e (info : PanicInfo) : (s.raisePanic info).e = s.e := rfl
@[simp] theorem raisePanic_h (info : PanicInfo) : (s.raisePanic info).h = s.h := rfl
@[simp] theorem raisePanic_l (info : PanicInfo) : (s.raisePanic info).l = s.l := rfl
@[simp] theorem raisePanic_sp (info : PanicInfo) : (s.raisePanic info).sp = s.sp := rfl
@[simp] theorem raisePanic_ime (info : PanicInfo) : (s.raisePanic info).ime = s.ime := rfl
@[simp] theorem raisePanic_eiLatch (info : PanicInfo) : (s.raisePanic info).eiLatch = s.eiLatch := rfl
@[simp] theorem raisePanic_cpuCycles (info : PanicInfo) : (s.raisePanic info).cpuCycles = s.cpuCycles := rfl
@[simp] theorem raisePanic_master (info : PanicInfo) : (s.raisePanic info).master = s.master := rfl
@[simp] theorem raisePanic_mem (info : PanicInfo) : (s.raisePanic info).mem = s.mem := rfl
@[simp] theorem raisePanic_dmaCountdown (info : PanicInfo) : (s.raisePanic info).dmaCountdown = s.dmaCountdown := rfl
@[simp] theorem raisePanic_dmaSource (info : PanicInfo) : (s.raisePanic info).dmaSource = s.dmaSource := rfl
@[simp] theorem raisePanic_lengthTimer (info : PanicInfo) : (s.raisePanic info).lengthTimer = s.lengthTimer := rfl
@[simp] theorem raisePanic_frameSync (info : PanicInfo) : (s.raisePanic info).frameSync = s.frameSync := rfl
@[simp] theorem raisePanic_windowLine (info : PanicInfo) : (s.raisePanic info).windowLine = s.windowLine := rfl
@[simp] theorem raisePanic_bgIndex (info : PanicInfo) : (s.raisePanic info).bgIndex = s.bgIndex := rfl
@[simp] theorem raisePanic_back (info : PanicInfo) : (s.raisePanic info).back = s.back := rfl
@[simp] theorem raisePanic_front (info : PanicInfo) : (s.raisePanic info).front = s.front := rfl
@[simp] theorem raisePanic_joyAction (info : PanicInfo) : (s.raisePanic info).joyAction = s.joyAction := rfl
@[simp] theorem raisePanic_joyDpad (info : PanicInfo) : (s.raisePanic info).joyDpad = s.joyDpad := rfl
@[simp] theorem raisePanic_config (info : PanicInfo) : (s.raisePanic info).config = s.config := rfl
@[simp] theorem raisePanic_inputs (info : PanicInfo) : (s.raisePanic info).inputs = s.inputs := rfl

/-! What the updates write -/

@[simp] theorem rawWrite_mem (a : Word) (v : Byte) : (s.rawWrite a v).mem = Memory.write s.mem a.toNat v := rfl
@[simp] theorem charge_cpuCycles (n : Nat) : (s.charge n).cpuCycles = s.cpuCycles + n := rfl
@[simp] theorem setFlags_f (fl : Flags) : (s.setFlags fl).f = fl.toByte := rfl
@[simp] theorem writeF_f (v : Byte) : (s.writeF v).f = v &&& 0xF0 := rfl
@[simp] theorem setHl_h (v : Word) : (s.setHl v).h = hiByte v := rfl
@[simp] theorem setHl_l (v : Word) : (s.setHl v).l = loByte v := rfl
@[simp] theorem dropTop_sp : s.dropTop.sp = s.sp + 2 := rfl
@[simp] theorem raisePanic_run (info : PanicInfo) : (s.raisePanic info).run = .panic := rfl
@[simp] theorem raisePanic_pc (info : PanicInfo) : (s.raisePanic info).pc = info.foundAtAddress := rfl
@[simp] theorem raisePanic_panicInfo (info : PanicInfo) : (s.raisePanic info).panicInfo = some info := rfl

/-! Registers: what is read after a write -/

@[simp] theorem reg8_setReg8 (r : Reg8) (v : Byte) : (s.setReg8 r v).reg8 r = v := by cases r <;> rfl

theorem reg8_setReg8_ne {r q : Reg8} (h : q ≠ r) (v : Byte) : (s.setReg8 r v).reg8 q = s.reg8 q := by
  cases r <;> cases q <;> first | exact absurd rfl h | rfl

@[simp] theorem hl_setHl (v : Word) : (s.setHl v).hl = v := wordOf_hiByte_loByte v

@[simp] theorem reg16_setReg16 (p : Reg16) (v : Word) : (s.setReg16 p v).reg16 p = v := by
  cases p
  · exact wordOf_hiByte_loByte v
  · exact wordOf_hiByte_loByte v
  · exact wordOf_hiByte_loByte v
  · rfl

theorem reg16_setReg16_ne {p q : Reg16} (h : q ≠ p) (v : Word) : (s.setReg16 p v).reg16 q = s.reg16 q := by
  cases p <;> cases q <;> first | exact absurd rfl h | rfl

/-! Flags -/

@[simp] theorem ofByte_toByte (fl : Flags) : Flags.ofByte fl.toByte = fl := by
  rcases fl with ⟨z, n, h, c⟩
  cases z <;> cases n <;> cases h <;> cases c <;> rfl

/-- A byte of F made of flags has a zero low nibble (R32). -/
@[simp] theorem toByte_lowNibble (fl : Flags) : fl.toByte &&& 0x0F = 0 := by
  rcases fl with ⟨z, n, h, c⟩
  cases z <;> cases n <;> cases h <;> cases c <;> rfl

/-- The flags of a byte, packed again, are its high nibble (R32, R33). -/
theorem toByte_ofByte (v : Byte) : (Flags.ofByte v).toByte = v &&& 0xF0 := by
  revert v
  decide

@[simp] theorem flags_setFlags (fl : Flags) : (s.setFlags fl).flags = fl := ofByte_toByte fl
@[simp] theorem flags_charge (n : Nat) : (s.charge n).flags = s.flags := rfl

end Sys2Proof.Machine
end

