-- ==== Sys2Proof/Laws/Memory.lean ====
section
/-! SUPPORT. The laws of memory: a read after a write, and the canonical form kept by every operation. The read laws hold
of every list, canonical or not. -/

namespace Sys2Proof.Machine

/-! ## Reads -/

theorem Memory.read_erase_same (m : Memory) (a : Nat) : Memory.read (Memory.erase m a) a = initByte a := by
  induction m with
  | nil => rfl
  | cons cell m ih =>
    by_cases h : cell.1 = a
    · simpa [Memory.erase, h] using ih
    · simpa [Memory.erase, h, Memory.read] using ih

theorem Memory.read_erase_other (m : Memory) {a b : Nat} (h : b ≠ a) :
    Memory.read (Memory.erase m a) b = Memory.read m b := by
  induction m with
  | nil => rfl
  | cons cell m ih =>
    by_cases hc : cell.1 = a
    · have : cell.1 ≠ b := fun e => h (e ▸ hc)
      simpa [Memory.erase, hc, Memory.read, this, Ne.symm h] using ih
    · by_cases hb : cell.1 = b
      · subst hb; simp [Memory.erase, hc, Memory.read]
      · simpa [Memory.erase, hc, Memory.read, hb] using ih

theorem Memory.read_insert_same (m : Memory) (a : Nat) (v : Byte) (h : ∀ cell ∈ m, cell.1 ≠ a) :
    Memory.read (Memory.insert m a v) a = v := by
  induction m with
  | nil => simp [Memory.insert, Memory.read]
  | cons cell m ih =>
    have hne : cell.1 ≠ a := h cell (by simp)
    by_cases hlt : a < cell.1
    · simp [Memory.insert, hlt, Memory.read]
    · simpa [Memory.insert, hlt, Memory.read, hne] using ih (fun x hx => h x (by simp [hx]))

theorem Memory.read_insert_other (m : Memory) {a b : Nat} (v : Byte) (h : b ≠ a) :
    Memory.read (Memory.insert m a v) b = Memory.read m b := by
  induction m with
  | nil => simp [Memory.insert, Memory.read, Ne.symm h]
  | cons cell m ih =>
    by_cases hlt : a < cell.1
    · simp [Memory.insert, hlt, Memory.read, Ne.symm h]
    · by_cases hb : cell.1 = b
      · subst hb
        simp [Memory.insert, hlt, Memory.read]
      · simpa [Memory.insert, hlt, Memory.read, hb] using ih

theorem Memory.erase_ne (m : Memory) (a : Nat) : ∀ cell ∈ Memory.erase m a, cell.1 ≠ a := by
  intro cell h
  simpa using (List.mem_filter.mp h).2

/-- A read after a write to the same address gives the byte written. -/
@[simp] theorem Memory.read_write_same (m : Memory) (a : Nat) (v : Byte) :
    Memory.read (Memory.write m a v) a = v := by
  unfold Memory.write
  split
  · next h => rw [Memory.read_erase_same, h]
  · exact Memory.read_insert_same _ _ _ (Memory.erase_ne m a)

/-- A write leaves every other address alone. -/
theorem Memory.read_write_other (m : Memory) {a b : Nat} (v : Byte) (h : b ≠ a) :
    Memory.read (Memory.write m a v) b = Memory.read m b := by
  unfold Memory.write
  split
  · exact Memory.read_erase_other m h
  · rw [Memory.read_insert_other _ _ h, Memory.read_erase_other m h]

/-- Reads after a write, at any address. -/
theorem Memory.read_write (m : Memory) (a b : Nat) (v : Byte) :
    Memory.read (Memory.write m a v) b = if b = a then v else Memory.read m b := by
  split
  · next h => rw [h, Memory.read_write_same]
  · next h => exact Memory.read_write_other m v h

/-! ## The canonical form -/

/-- The canonical form as a proposition. -/
theorem Memory.wf_iff (m : Memory) :
    Memory.wf m = true ↔
      m.Pairwise (fun x y => x.1 < y.1) ∧ ∀ cell ∈ m, cell.1 < 0x10000 ∧ cell.2 ≠ initByte cell.1 := by
  simp [Memory.wf]

theorem Memory.wf_nil : Memory.wf [] = true := rfl

theorem Memory.wf_filter {m : Memory} (p : Host.Cell → Bool) (h : Memory.wf m = true) :
    Memory.wf (m.filter p) = true := by
  rw [Memory.wf_iff] at h ⊢
  exact ⟨h.1.filter p, fun cell hc => h.2 cell (List.mem_filter.mp hc).1⟩

theorem Memory.wf_erase {m : Memory} (a : Nat) (h : Memory.wf m = true) : Memory.wf (Memory.erase m a) = true :=
  Memory.wf_filter _ h

theorem Memory.mem_insert {m : Memory} {a : Nat} {v : Byte} {cell : Host.Cell} (h : cell ∈ Memory.insert m a v) :
    cell = (a, v) ∨ cell ∈ m := by
  induction m with
  | nil => simpa [Memory.insert] using h
  | cons x m ih =>
    unfold Memory.insert at h
    split at h
    · simpa using h
    · rcases List.mem_cons.mp h with rfl | h
      · simp
      · rcases ih h with h | h <;> simp [h]

theorem Memory.wf_insert {m : Memory} {a : Nat} {v : Byte} (h : Memory.wf m = true) (hn : ∀ cell ∈ m, cell.1 ≠ a)
    (ha : a < 0x10000) (hv : v ≠ initByte a) : Memory.wf (Memory.insert m a v) = true := by
  induction m with
  | nil => simp [Memory.insert, Memory.wf, ha, hv]
  | cons x m ih =>
    rw [Memory.wf_iff, List.pairwise_cons] at h
    obtain ⟨⟨hx, hp⟩, hall⟩ := h
    have hm : Memory.wf m = true := (Memory.wf_iff m).2 ⟨hp, fun cell hc => hall cell (by simp [hc])⟩
    have hxa : x.1 ≠ a := hn x (by simp)
    unfold Memory.insert
    split
    · next hlt =>
      refine (Memory.wf_iff _).2 ⟨List.pairwise_cons.2 ⟨?_, List.pairwise_cons.2 ⟨hx, hp⟩⟩, ?_⟩
      · intro cell hc
        rcases List.mem_cons.mp hc with rfl | hc
        · exact hlt
        · exact lt_trans hlt (hx cell hc)
      · intro cell hc
        rcases List.mem_cons.mp hc with rfl | hc
        · exact ⟨ha, hv⟩
        · exact hall cell hc
    · next hlt =>
      have hi := ih hm (fun cell hc => hn cell (by simp [hc]))
      rw [Memory.wf_iff] at hi
      refine (Memory.wf_iff _).2 ⟨List.pairwise_cons.2 ⟨?_, hi.1⟩, ?_⟩
      · intro cell hc
        rcases Memory.mem_insert hc with rfl | hc
        · simp only; omega
        · exact hx cell hc
      · intro cell hc
        rcases List.mem_cons.mp hc with rfl | hc
        · exact hall _ (by simp)
        · exact hi.2 cell hc

/-- A write keeps the canonical form. -/
theorem Memory.wf_write {m : Memory} {a : Nat} (v : Byte) (h : Memory.wf m = true) (ha : a < 0x10000) :
    Memory.wf (Memory.write m a v) = true := by
  unfold Memory.write
  split
  · exact Memory.wf_erase a h
  · next hv => exact Memory.wf_insert (Memory.wf_erase a h) (Memory.erase_ne m a) ha hv

/-! ## Device-side accesses -/

/-- A raw read after a raw write (R116). -/
theorem rawRead_rawWrite (s : State) (a b : Word) (v : Byte) :
    (s.rawWrite a v).rawRead b = if b = a then v else s.rawRead b := by
  unfold State.rawRead State.rawWrite
  rw [Memory.read_write]
  by_cases h : b = a
  · simp [h]
  · have : b.toNat ≠ a.toNat := fun e => h (BitVec.eq_of_toNat_eq e)
    simp [h, this]

@[simp] theorem rawRead_rawWrite_same (s : State) (a : Word) (v : Byte) : (s.rawWrite a v).rawRead a = v := by
  simp [rawRead_rawWrite]

theorem rawRead_rawWrite_other (s : State) {a b : Word} (v : Byte) (h : b ≠ a) :
    (s.rawWrite a v).rawRead b = s.rawRead b := by
  simp [rawRead_rawWrite, h]

theorem wf_rawWrite {s : State} (a : Word) (v : Byte) (h : Memory.wf s.mem = true) :
    Memory.wf (s.rawWrite a v).mem = true :=
  Memory.wf_write v h a.isLt

/-- Writing back the byte that is there changes no read. -/
theorem rawRead_rawWrite_self (s : State) (a b : Word) : (s.rawWrite a (s.rawRead a)).rawRead b = s.rawRead b := by
  rw [rawRead_rawWrite]
  split
  · next h => rw [h]
  · rfl

end Sys2Proof.Machine
end

