-- ==== Sys2Proof/Laws/Bus.lean ====
section
/-! SUPPORT. The bus: what a CPU read gives at each kind of address, and everything a CPU write can do (R102–R115). -/

namespace Sys2Proof.Machine

/-! ## Everything a CPU write can do -/

/-- The moves a CPU write is made of: raw writes above ROM, the DMA registers, the length timers. -/
structure BusClosed (P : State → Prop) : Prop where
  raw : ∀ s (a : Word) v, 0x8000#16 ≤ a → P s → P (s.rawWrite a v)
  dmaSource : ∀ s v, P s → P { s with dmaSource := v }
  dmaStart : ∀ s, P s → P { s with dmaCountdown := 640 }
  lengths : ∀ s v, P s → P { s with lengthTimer := v }

theorem dmaTarget_high {i : Nat} (h : i < 0xA0) : 0x8000#16 ≤ 0xFE00 + BitVec.ofNat 16 i := by
  have h0 : (0x8000#16).toNat = 0x8000 := rfl
  have h1 : (0xFE00 : Word).toNat = 0xFE00 := rfl
  have h2 : (BitVec.ofNat 16 i).toNat = i := by rw [BitVec.toNat_ofNat]; omega
  rw [BitVec.le_def, BitVec.toNat_add, h0, h1, h2]
  omega

theorem startDma_closed {P : State → Prop} (hP : BusClosed P) {s : State} (page : Byte) (h : P s) :
    P (s.startDma page) := by
  refine hP.dmaStart _ ?_
  refine List.foldlRecOn (List.range 0xA0) (State.dmaCopyByte page) (hP.dmaSource s page h) ?_
  intro t ht i hi
  exact hP.raw _ _ _ (dmaTarget_high (List.mem_range.mp hi)) ht

/-- The mirror of an echo address lies in work RAM. -/
theorem mirrored_high {a : Word} (h : 0xE000#16 ≤ a) : 0x8000#16 ≤ mirrored a := by
  simp only [mirrored, BitVec.le_def] at *
  bv_omega

/-- A CPU write is made of the moves of `BusClosed`. -/
theorem memWrite_closed {P : State → Prop} (hP : BusClosed P) {s : State} (a : Word) (v : Byte) (h : P s) :
    P (s.memWrite a v) := by
  unfold State.memWrite
  split_ifs with _ _ _ _ _ _ hn he _ hr
  · exact h
  · exact hP.raw _ _ _ (by decide) h
  · exact hP.raw _ _ _ (by decide) h
  · exact startDma_closed hP v (hP.raw _ _ _ (by decide) h)
  · exact hP.raw _ _ _ (by decide) h
  · exact hP.raw _ _ _ (by decide) (hP.raw _ _ _ (by decide) h)
  · refine hP.lengths _ _ (hP.raw _ _ _ ?_ h)
    rcases hn with rfl | rfl | rfl | rfl <;> decide
  · exact hP.raw _ _ _ (mirrored_high he.1) h
  · exact h
  · exact h
  · refine hP.raw _ _ _ ?_ h
    simp only [BitVec.le_def] at *
    bv_omega

/-- A CPU write changes memory, the DMA registers and the length timers, and nothing else. -/
theorem memWrite_eq (s : State) (a : Word) (v : Byte) :
    s.memWrite a v =
      { s with
        mem := (s.memWrite a v).mem
        dmaCountdown := (s.memWrite a v).dmaCountdown
        dmaSource := (s.memWrite a v).dmaSource
        lengthTimer := (s.memWrite a v).lengthTimer } := by
  have hP : BusClosed (fun t =>
      t = { s with mem := t.mem, dmaCountdown := t.dmaCountdown, dmaSource := t.dmaSource, lengthTimer := t.lengthTimer }) :=
    { raw := fun t a v _ h => by rw [h]; rfl
      dmaSource := fun t v h => by rw [h]
      dmaStart := fun t h => by rw [h]
      lengths := fun t v h => by rw [h] }
  exact memWrite_closed hP a v rfl

/-! What a CPU write leaves unchanged, field by field -/

@[simp] theorem memWrite_a (s : State) (a : Word) (v : Byte) : (s.memWrite a v).a = s.a := by
  rw [memWrite_eq]
@[simp] theorem memWrite_f (s : State) (a : Word) (v : Byte) : (s.memWrite a v).f = s.f := by
  rw [memWrite_eq]
@[simp] theorem memWrite_b (s : State) (a : Word) (v : Byte) : (s.memWrite a v).b = s.b := by
  rw [memWrite_eq]
@[simp] theorem memWrite_c (s : State) (a : Word) (v : Byte) : (s.memWrite a v).c = s.c := by
  rw [memWrite_eq]
@[simp] theorem memWrite_d (s : State) (a : Word) (v : Byte) : (s.memWrite a v).d = s.d := by
  rw [memWrite_eq]
@[simp] theorem memWrite_e (s : State) (a : Word) (v : Byte) : (s.memWrite a v).e = s.e := by
  rw [memWrite_eq]
@[simp] theorem memWrite_h (s : State) (a : Word) (v : Byte) : (s.memWrite a v).h = s.h := by
  rw [memWrite_eq]
@[simp] theorem memWrite_l (s : State) (a : Word) (v : Byte) : (s.memWrite a v).l = s.l := by
  rw [memWrite_eq]
@[simp] theorem memWrite_sp (s : State) (a : Word) (v : Byte) : (s.memWrite a v).sp = s.sp := by
  rw [memWrite_eq]
@[simp] theorem memWrite_pc (s : State) (a : Word) (v : Byte) : (s.memWrite a v).pc = s.pc := by
  rw [memWrite_eq]
@[simp] theorem memWrite_run (s : State) (a : Word) (v : Byte) : (s.memWrite a v).run = s.run := by
  rw [memWrite_eq]
@[simp] theorem memWrite_ime (s : State) (a : Word) (v : Byte) : (s.memWrite a v).ime = s.ime := by
  rw [memWrite_eq]
@[simp] theorem memWrite_eiLatch (s : State) (a : Word) (v : Byte) : (s.memWrite a v).eiLatch = s.eiLatch := by
  rw [memWrite_eq]
@[simp] theorem memWrite_cpuCycles (s : State) (a : Word) (v : Byte) : (s.memWrite a v).cpuCycles = s.cpuCycles := by
  rw [memWrite_eq]
@[simp] theorem memWrite_master (s : State) (a : Word) (v : Byte) : (s.memWrite a v).master = s.master := by
  rw [memWrite_eq]
@[simp] theorem memWrite_panicInfo (s : State) (a : Word) (v : Byte) : (s.memWrite a v).panicInfo = s.panicInfo := by
  rw [memWrite_eq]
@[simp] theorem memWrite_frameSync (s : State) (a : Word) (v : Byte) : (s.memWrite a v).frameSync = s.frameSync := by
  rw [memWrite_eq]
@[simp] theorem memWrite_windowLine (s : State) (a : Word) (v : Byte) : (s.memWrite a v).windowLine = s.windowLine := by
  rw [memWrite_eq]
@[simp] theorem memWrite_bgIndex (s : State) (a : Word) (v : Byte) : (s.memWrite a v).bgIndex = s.bgIndex := by
  rw [memWrite_eq]
@[simp] theorem memWrite_back (s : State) (a : Word) (v : Byte) : (s.memWrite a v).back = s.back := by
  rw [memWrite_eq]
@[simp] theorem memWrite_front (s : State) (a : Word) (v : Byte) : (s.memWrite a v).front = s.front := by
  rw [memWrite_eq]
@[simp] theorem memWrite_joyAction (s : State) (a : Word) (v : Byte) : (s.memWrite a v).joyAction = s.joyAction := by
  rw [memWrite_eq]
@[simp] theorem memWrite_joyDpad (s : State) (a : Word) (v : Byte) : (s.memWrite a v).joyDpad = s.joyDpad := by
  rw [memWrite_eq]
@[simp] theorem memWrite_config (s : State) (a : Word) (v : Byte) : (s.memWrite a v).config = s.config := by
  rw [memWrite_eq]
@[simp] theorem memWrite_inputs (s : State) (a : Word) (v : Byte) : (s.memWrite a v).inputs = s.inputs := by
  rw [memWrite_eq]

/-! What a push leaves unchanged, field by field -/

@[simp] theorem push16_a (s : State) (v : Word) : (s.push16 v).a = s.a := by simp [State.push16]
@[simp] theorem push16_f (s : State) (v : Word) : (s.push16 v).f = s.f := by simp [State.push16]
@[simp] theorem push16_b (s : State) (v : Word) : (s.push16 v).b = s.b := by simp [State.push16]
@[simp] theorem push16_c (s : State) (v : Word) : (s.push16 v).c = s.c := by simp [State.push16]
@[simp] theorem push16_d (s : State) (v : Word) : (s.push16 v).d = s.d := by simp [State.push16]
@[simp] theorem push16_e (s : State) (v : Word) : (s.push16 v).e = s.e := by simp [State.push16]
@[simp] theorem push16_h (s : State) (v : Word) : (s.push16 v).h = s.h := by simp [State.push16]
@[simp] theorem push16_l (s : State) (v : Word) : (s.push16 v).l = s.l := by simp [State.push16]
@[simp] theorem push16_pc (s : State) (v : Word) : (s.push16 v).pc = s.pc := by simp [State.push16]
@[simp] theorem push16_run (s : State) (v : Word) : (s.push16 v).run = s.run := by simp [State.push16]
@[simp] theorem push16_ime (s : State) (v : Word) : (s.push16 v).ime = s.ime := by simp [State.push16]
@[simp] theorem push16_eiLatch (s : State) (v : Word) : (s.push16 v).eiLatch = s.eiLatch := by simp [State.push16]
@[simp] theorem push16_cpuCycles (s : State) (v : Word) : (s.push16 v).cpuCycles = s.cpuCycles := by simp [State.push16]
@[simp] theorem push16_master (s : State) (v : Word) : (s.push16 v).master = s.master := by simp [State.push16]
@[simp] theorem push16_panicInfo (s : State) (v : Word) : (s.push16 v).panicInfo = s.panicInfo := by simp [State.push16]
@[simp] theorem push16_frameSync (s : State) (v : Word) : (s.push16 v).frameSync = s.frameSync := by simp [State.push16]
@[simp] theorem push16_windowLine (s : State) (v : Word) : (s.push16 v).windowLine = s.windowLine := by simp [State.push16]
@[simp] theorem push16_bgIndex (s : State) (v : Word) : (s.push16 v).bgIndex = s.bgIndex := by simp [State.push16]
@[simp] theorem push16_back (s : State) (v : Word) : (s.push16 v).back = s.back := by simp [State.push16]
@[simp] theorem push16_front (s : State) (v : Word) : (s.push16 v).front = s.front := by simp [State.push16]
@[simp] theorem push16_joyAction (s : State) (v : Word) : (s.push16 v).joyAction = s.joyAction := by simp [State.push16]
@[simp] theorem push16_joyDpad (s : State) (v : Word) : (s.push16 v).joyDpad = s.joyDpad := by simp [State.push16]
@[simp] theorem push16_config (s : State) (v : Word) : (s.push16 v).config = s.config := by simp [State.push16]
@[simp] theorem push16_inputs (s : State) (v : Word) : (s.push16 v).inputs = s.inputs := by simp [State.push16]
@[simp] theorem push16_sp (s : State) (v : Word) : (s.push16 v).sp = s.sp - 2 := by simp [State.push16]

/-! ## What a CPU read gives -/

/-- An address that the read decode has no case of its own for (R102). -/
def plainRead (a : Word) : Bool :=
  a != 0xFF00 && a != 0xFF41 && !(0xE000#16 ≤ a && a ≤ 0xFDFF#16) && !(0xFEA0#16 ≤ a && a ≤ 0xFEFF#16)

theorem decodedRead_plain (s : State) {a : Word} (h : plainRead a = true) : s.decodedRead a = s.rawRead a := by
  simp only [plainRead, Bool.and_eq_true, bne_iff_ne, ne_eq, Bool.not_eq_true', Bool.and_eq_false_imp, decide_eq_true_eq,
    decide_eq_false_iff_not] at h
  obtain ⟨⟨⟨h1, h2⟩, h3⟩, h4⟩ := h
  have h3' : ¬ (0xE000#16 ≤ a ∧ a ≤ 0xFDFF#16) := fun x => h3 x.1 x.2
  have h4' : ¬ (0xFEA0#16 ≤ a ∧ a ≤ 0xFEFF#16) := fun x => h4 x.1 x.2
  simp only [State.decodedRead, h1, h2, h3', h4', if_false]

theorem memRead_free (s : State) {a : Word} (h : s.blocked a = false) : s.memRead a = s.decodedRead a := by
  simp [State.memRead, h]

/-- A blocked address reads 0xFF (R104). -/
theorem memRead_blocked (s : State) {a : Word} (h : s.blocked a = true) : s.memRead a = 0xFF := by
  simp [State.memRead, h]

/-- A blocked write is dropped (R104). -/
theorem memWrite_blocked (s : State) {a : Word} (v : Byte) (h : s.blocked a = true) : s.memWrite a v = s := by
  simp [State.memWrite, h]

/-- With no transfer in progress nothing is blocked. -/
theorem blocked_of_idle (s : State) (a : Word) (h : s.dmaActive = false) : s.blocked a = false := by
  simp [State.blocked, h]

/-- An address that the write decode has no case of its own for (R103): a plain store. -/
def plainWrite (a : Word) : Bool :=
  a != 0xFF00 && a != 0xFF41 && a != 0xFF46 && a != 0xFF04 && a != 0xFF45 && a != 0xFF11 && a != 0xFF16 && a != 0xFF1B &&
    a != 0xFF20 && !(0xE000#16 ≤ a && a ≤ 0xFDFF#16) && !(0xFEA0#16 ≤ a && a ≤ 0xFEFF#16) && !(a ≤ 0x7FFF#16)

theorem memWrite_plain (s : State) {a : Word} (v : Byte) (hb : s.blocked a = false) (h : plainWrite a = true) :
    s.memWrite a v = s.rawWrite a v := by
  simp only [plainWrite, Bool.and_eq_true, bne_iff_ne, ne_eq, Bool.not_eq_true', Bool.and_eq_false_imp, decide_eq_true_eq,
    decide_eq_false_iff_not] at h
  obtain ⟨⟨⟨⟨⟨⟨⟨⟨⟨⟨⟨h1, h2⟩, h3⟩, h4⟩, h5⟩, h6⟩, h7⟩, h8⟩, h9⟩, h10⟩, h11⟩, h12⟩ := h
  have h10' : ¬ (0xE000#16 ≤ a ∧ a ≤ 0xFDFF#16) := fun x => h10 x.1 x.2
  have h11' : ¬ (0xFEA0#16 ≤ a ∧ a ≤ 0xFEFF#16) := fun x => h11 x.1 x.2
  simp only [State.memWrite, hb, h1, h2, h3, h4, h5, h6, h7, h8, h9, h10', h11', h12, if_false, or_self,
    Bool.false_eq_true]

/-- A write to ROM is dropped (R114). -/
theorem memWrite_rom (s : State) {a : Word} (v : Byte) (h : a ≤ 0x7FFF#16) : s.memWrite a v = s := by
  have hne : ∀ b : Word, 0x8000#16 ≤ b → a ≠ b := by
    intro b hb e
    subst e
    simp only [BitVec.le_def] at *
    bv_omega
  have he : ¬ (0xE000#16 ≤ a ∧ a ≤ 0xFDFF#16) := by
    rintro ⟨h1, -⟩
    exact hne a (BitVec.le_trans (show 0x8000#16 ≤ 0xE000#16 by decide) h1) rfl
  unfold State.memWrite
  simp only [hne 0xFF00 (by decide), hne 0xFF41 (by decide), hne 0xFF46 (by decide), hne 0xFF04 (by decide),
    hne 0xFF45 (by decide), hne 0xFF11 (by decide), hne 0xFF16 (by decide), hne 0xFF1B (by decide),
    hne 0xFF20 (by decide), he, h, if_false, if_true, or_self, ite_self]

/-! ## The bus and the rest of the state -/

/-- The bus of `s` beside the registers and everything else of `r`. -/
def State.withBus (r s : State) : State :=
  { r with mem := s.mem, dmaCountdown := s.dmaCountdown, dmaSource := s.dmaSource, lengthTimer := s.lengthTimer }

/-- The joypad inputs and the parameters, which the bus reads beside its own state. -/
def SameInputs (r s : State) : Prop := r.joyAction = s.joyAction ∧ r.joyDpad = s.joyDpad ∧ r.config = s.config

theorem decodedRead_withBus {r s : State} (h : SameInputs r s) (a : Word) :
    (r.withBus s).decodedRead a = s.decodedRead a := by
  have hj : (r.withBus s).joypadRead = s.joypadRead := by
    have h1 : (r.withBus s).joyAction = s.joyAction := h.1
    have h2 : (r.withBus s).joyDpad = s.joyDpad := h.2.1
    unfold State.joypadRead
    rw [h1, h2]
    rfl
  unfold State.decodedRead
  rw [hj]
  rfl

/-- What a CPU read gives does not depend on the registers. -/
theorem memRead_withBus {r s : State} (h : SameInputs r s) (a : Word) : (r.withBus s).memRead a = s.memRead a := by
  unfold State.memRead
  rw [decodedRead_withBus h]
  rfl

theorem dmaCopy_withBus {r : State} (page : Byte) (l : List Nat) {s : State} (h : SameInputs r s) :
    l.foldl (State.dmaCopyByte page) (r.withBus s) = r.withBus (l.foldl (State.dmaCopyByte page) s) := by
  induction l generalizing s with
  | nil => rfl
  | cons i l ih =>
    have hs : (r.withBus s).dmaSrcRead (wordOf page 0x00 + BitVec.ofNat 16 i) =
        s.dmaSrcRead (wordOf page 0x00 + BitVec.ofNat 16 i) := by
      have hc : (r.withBus s).config = s.config := h.2.2
      unfold State.dmaSrcRead
      rw [decodedRead_withBus h, hc]
      rfl
    have h1 : (r.withBus s).dmaCopyByte page i = r.withBus (s.dmaCopyByte page i) := by
      unfold State.dmaCopyByte
      rw [hs]
      rfl
    rw [List.foldl_cons, List.foldl_cons, h1]
    exact ih h

theorem startDma_withBus {r s : State} (h : SameInputs r s) (page : Byte) :
    (r.withBus s).startDma page = r.withBus (s.startDma page) := by
  have h1 := dmaCopy_withBus page (List.range 0xA0) (show SameInputs r { s with dmaSource := page } from h)
  unfold State.startDma
  have h2 : ({ r.withBus s with dmaSource := page } : State) = r.withBus { s with dmaSource := page } := rfl
  simp only [h2, h1]
  generalize List.foldl (State.dmaCopyByte page) { s with dmaSource := page } (List.range 0xA0) = u
  rfl

/-- What a CPU write does to the bus does not depend on the registers, and it changes none of them. -/
theorem memWrite_withBus {r s : State} (h : SameInputs r s) (a : Word) (v : Byte) :
    (r.withBus s).memWrite a v = r.withBus (s.memWrite a v) := by
  have hb : (r.withBus s).blocked a = s.blocked a := rfl
  have hw : ∀ b u, (r.withBus s).rawWrite b u = r.withBus (s.rawWrite b u) := fun _ _ => rfl
  have hr : ∀ b, (r.withBus s).rawRead b = s.rawRead b := fun _ => rfl
  have hd := startDma_withBus (show SameInputs r (s.rawWrite 0xFF46 v) from h) v
  have hc : ∀ u : State, (r.withBus u).coincidenceRecheck = r.withBus u.coincidenceRecheck := fun _ => rfl
  have hl : ∀ (u : State) b w, (r.withBus u).reloadLength b w = r.withBus (u.reloadLength b w) := fun _ _ _ => rfl
  simp only [State.memWrite, hb, hw, hr, hd, hc, hl, apply_ite (State.withBus r)]

/-! ## The stack -/

theorem push16_closed {P : State → Prop} (hP : BusClosed P) (hsp : ∀ s v, P s → P { s with sp := v }) {s : State}
    (v : Word) (h : P s) : P (s.push16 v) :=
  memWrite_closed hP _ _ (memWrite_closed hP _ _ (hsp s _ h))

theorem memWrite16_closed {P : State → Prop} (hP : BusClosed P) {s : State} (a v : Word) (h : P s) :
    P (s.memWrite16 a v) :=
  memWrite_closed hP _ _ (memWrite_closed hP _ _ h)

end Sys2Proof.Machine
end

