-- ==== Sys2Proof/Laws/Rows.lean ====
section
/-! SUPPORT. The 512 rows in 57 groups: what `exec` does with each group, by operand code, and the induction principle that
reduces a statement about every instruction to one case per group. -/

namespace Sys2Proof

namespace Machine

theorem exec_nop (s : State) : exec .nop s = complete 4 s := rfl

theorem exec_ldPairN16 (p : Reg16) (n : Word) (s : State) :
    exec (Row.ldPairN16 p n) s = complete 12 (ldPairN16 p n s) := by
  cases p <;> rfl

theorem exec_ldAtMemA (p : MemReg) (s : State) :
    exec (Row.ldAtMemA p) s = complete 8 (ldAtMemA p s) := by
  cases p <;> rfl

theorem exec_inc16 (p : Reg16) (s : State) :
    exec (Row.inc16 p) s = complete 8 (incPair p s) := by
  cases p <;> rfl

theorem exec_inc8 (o : Operand8) (s : State) :
    exec (Row.inc8 o) s = complete (operandCycles o 4 12) (incOperand o s) := by
  rcases o with ⟨r⟩ | _
  · cases r <;> rfl
  · rfl

theorem exec_dec8 (o : Operand8) (s : State) :
    exec (Row.dec8 o) s = complete (operandCycles o 4 12) (decOperand o s) := by
  rcases o with ⟨r⟩ | _
  · cases r <;> rfl
  · rfl

theorem exec_ldRegN8 (r : Reg8) (n : Byte) (s : State) :
    exec (Row.ldRegN8 r n) s = complete 8 (ldRegN8 r n s) := by
  cases r <;> rfl

theorem exec_rlca (s : State) : exec .rlca s = complete 4 (rotateA .rlc s) := rfl

theorem exec_ldAtN16Sp (n : Word) (s : State) : exec (.ldAtN16Sp n) s = complete 20 (s.memWrite16 n s.sp) := rfl

theorem exec_addHl (p : Reg16) (s : State) :
    exec (Row.addHl p) s = complete 8 (addHlPair p s) := by
  cases p <;> rfl

theorem exec_ldAAtMem (p : MemReg) (s : State) :
    exec (Row.ldAAtMem p) s = complete 8 (ldAAtMem p s) := by
  cases p <;> rfl

theorem exec_dec16 (p : Reg16) (s : State) :
    exec (Row.dec16 p) s = complete 8 (decPair p s) := by
  cases p <;> rfl

theorem exec_rrca (s : State) : exec .rrca s = complete 4 (rotateA .rrc s) := rfl

theorem exec_stop (ignored : Byte) (s : State) : exec (.stop ignored) s = complete 4 (stopCpu s) := rfl

theorem exec_rla (s : State) : exec .rla s = complete 4 (rotateA .rl s) := rfl

theorem exec_jrE8 (e : Byte) (s : State) : exec (.jrE8 e) s = complete 12 (jumpBy e s) := rfl

theorem exec_rra (s : State) : exec .rra s = complete 4 (rotateA .rr s) := rfl

theorem exec_jrCond (cc : Cond) (e : Byte) (s : State) :
    exec (Row.jrCond cc e) s = complete 8 (branchIf cc 4 (jumpBy e) s) := by
  cases cc <;> rfl

theorem exec_daa (s : State) : exec .daa s = complete 4 (decimalAdjust s) := rfl

theorem exec_cpl (s : State) : exec .cpl s = complete 4 (complementA s) := rfl

theorem exec_ldAtHlN8 (n : Byte) (s : State) : exec (.ldAtHlN8 n) s = complete 12 (s.memWrite s.hl n) := rfl

theorem exec_scf (s : State) : exec .scf s = complete 4 (setCarry s) := rfl

theorem exec_ccf (s : State) : exec .ccf s = complete 4 (complementCarry s) := rfl

theorem exec_ldRegReg (dst : Reg8) (src : Reg8) (s : State) :
    exec (Row.ldRegReg dst src) s = complete 4 (ldRegReg dst src s) := by
  cases dst <;> cases src <;> rfl

theorem exec_ldRegAtHl (r : Reg8) (s : State) :
    exec (Row.ldRegAtHl r) s = complete 8 (ldRegAtHl r s) := by
  cases r <;> rfl

theorem exec_ldAtHlReg (r : Reg8) (s : State) :
    exec (Row.ldAtHlReg r) s = complete 8 (ldAtHlReg r s) := by
  cases r <;> rfl

theorem exec_halt (s : State) : exec .halt s = complete 4 (haltCpu s) := rfl

theorem exec_alu (op : AluOp) (o : Operand8) (s : State) :
    exec (Row.alu op o) s = complete (operandCycles o 4 8) (aluOperand op o s) := by
  rcases o with ⟨r⟩ | _
  · cases op <;> cases r <;> rfl
  · cases op <;> rfl

theorem exec_retCond (cc : Cond) (s : State) :
    exec (Row.retCond cc) s = complete 8 (branchIf cc 12 returnToCaller s) := by
  cases cc <;> rfl

theorem exec_pop (p : StackReg) (s : State) :
    exec (Row.pop p) s = complete 12 (popPair p s) := by
  cases p <;> rfl

theorem exec_jpCond (cc : Cond) (n : Word) (s : State) :
    exec (Row.jpCond cc n) s = complete 12 (branchIf cc 4 (jumpTo n) s) := by
  cases cc <;> rfl

theorem exec_jpN16 (n : Word) (s : State) : exec (.jpN16 n) s = complete 16 (jumpTo n s) := rfl

theorem exec_callCond (cc : Cond) (n : Word) (s : State) :
    exec (Row.callCond cc n) s = complete 12 (branchIf cc 12 (callTo n) s) := by
  cases cc <;> rfl

theorem exec_push (p : StackReg) (s : State) :
    exec (Row.push p) s = complete 16 (pushPair p s) := by
  cases p <;> rfl

theorem exec_aluN8 (op : AluOp) (n : Byte) (s : State) :
    exec (Row.aluN8 op n) s = complete 8 (aluValue op n s) := by
  cases op <;> rfl

theorem exec_rst (y : Fin 8) (s : State) :
    exec (Row.rst y) s = complete 16 (callTo (restartTarget y) s) := by
  fin_cases y <;> rfl

theorem exec_ret (s : State) : exec .ret s = complete 16 (returnToCaller s) := rfl

theorem exec_prefixCb (s : State) :
    exec .prefixCb s = complete (extCycles s.fetch8.1) (extOperation s.fetch8.1 s.fetch8.2) := rfl
theorem exec_callN16 (n : Word) (s : State) : exec (.callN16 n) s = complete 24 (callTo n s) := rfl

theorem exec_unused (u : UnusedOpcode) (s : State) :
    exec (Row.unused u) s = unusedOpcode u.byte s := by
  cases u <;> rfl

theorem exec_reti (s : State) : exec .reti s = complete 16 (s.returnFromInterrupt) := rfl

theorem exec_ldhAtA8A (a : Byte) (s : State) : exec (.ldhAtA8A a) s = complete 12 (ldATo (highAddr a) s) := rfl

theorem exec_ldAtCA (s : State) : exec .ldAtCA s = complete 8 (ldATo (highAddr s.c) s) := rfl

theorem exec_addSpE8 (e : Byte) (s : State) : exec (.addSpE8 e) s = complete 16 (addSpOffset e s) := rfl

theorem exec_jpHl (s : State) : exec .jpHl s = complete 4 (jumpTo s.hl s) := rfl

theorem exec_ldAtN16A (n : Word) (s : State) : exec (.ldAtN16A n) s = complete 16 (ldATo n s) := rfl

theorem exec_ldhAAtA8 (a : Byte) (s : State) : exec (.ldhAAtA8 a) s = complete 12 (ldAFrom (highAddr a) s) := rfl

theorem exec_ldAAtC (s : State) : exec .ldAAtC s = complete 8 (ldAFrom (highAddr s.c) s) := rfl

theorem exec_di (s : State) : exec .di s = complete 4 (disableInterrupts s) := rfl

theorem exec_ldHlSpE8 (e : Byte) (s : State) : exec (.ldHlSpE8 e) s = complete 12 (ldHlSpOffset e s) := rfl

theorem exec_ldSpHl (s : State) : exec .ldSpHl s = complete 8 ({ s with sp := s.hl }) := rfl

theorem exec_ldAAtN16 (n : Word) (s : State) : exec (.ldAAtN16 n) s = complete 16 (ldAFrom n s) := rfl

theorem exec_ei (s : State) : exec .ei s = complete 4 (enableInterrupts s) := rfl

theorem exec_shift (op : ShiftOp) (o : Operand8) (s : State) :
    exec (Row.shift op o) s = complete (operandCycles o 8 16) (shiftOperand op o s) := by
  rcases o with ⟨r⟩ | _
  · cases op <;> cases r <;> rfl
  · cases op <;> rfl

theorem exec_bit (b : Fin 8) (o : Operand8) (s : State) :
    exec (Row.bit b o) s = complete (operandCycles o 8 12) (testBit b o s) := by
  rcases o with ⟨r⟩ | _
  · fin_cases b <;> cases r <;> rfl
  · fin_cases b <;> rfl

theorem exec_res (b : Fin 8) (o : Operand8) (s : State) :
    exec (Row.res b o) s = complete (operandCycles o 8 16) (resOperand b o s) := by
  rcases o with ⟨r⟩ | _
  · fin_cases b <;> cases r <;> rfl
  · fin_cases b <;> rfl

theorem exec_set (b : Fin 8) (o : Operand8) (s : State) :
    exec (Row.set b o) s = complete (operandCycles o 8 16) (setOperand b o s) := by
  rcases o with ⟨r⟩ | _
  · fin_cases b <;> cases r <;> rfl
  · fin_cases b <;> rfl

end Machine

/-- A property of every instruction, by the 57 groups of rows. -/
theorem Instr.byRow {P : Instr → Prop}
    (nop : P .nop)
    (ldPairN16 : ∀ (p : Reg16) (n : Word), P (Row.ldPairN16 p n))
    (ldAtMemA : ∀ (p : MemReg), P (Row.ldAtMemA p))
    (inc16 : ∀ (p : Reg16), P (Row.inc16 p))
    (inc8 : ∀ (o : Operand8), P (Row.inc8 o))
    (dec8 : ∀ (o : Operand8), P (Row.dec8 o))
    (ldRegN8 : ∀ (r : Reg8) (n : Byte), P (Row.ldRegN8 r n))
    (rlca : P .rlca)
    (ldAtN16Sp : ∀ n : Word, P (.ldAtN16Sp n))
    (addHl : ∀ (p : Reg16), P (Row.addHl p))
    (ldAAtMem : ∀ (p : MemReg), P (Row.ldAAtMem p))
    (dec16 : ∀ (p : Reg16), P (Row.dec16 p))
    (rrca : P .rrca)
    (stop : ∀ ignored : Byte, P (.stop ignored))
    (rla : P .rla)
    (jrE8 : ∀ e : Byte, P (.jrE8 e))
    (rra : P .rra)
    (jrCond : ∀ (cc : Cond) (e : Byte), P (Row.jrCond cc e))
    (daa : P .daa)
    (cpl : P .cpl)
    (ldAtHlN8 : ∀ n : Byte, P (.ldAtHlN8 n))
    (scf : P .scf)
    (ccf : P .ccf)
    (ldRegReg : ∀ (dst : Reg8) (src : Reg8), P (Row.ldRegReg dst src))
    (ldRegAtHl : ∀ (r : Reg8), P (Row.ldRegAtHl r))
    (ldAtHlReg : ∀ (r : Reg8), P (Row.ldAtHlReg r))
    (halt : P .halt)
    (alu : ∀ (op : AluOp) (o : Operand8), P (Row.alu op o))
    (retCond : ∀ (cc : Cond), P (Row.retCond cc))
    (pop : ∀ (p : StackReg), P (Row.pop p))
    (jpCond : ∀ (cc : Cond) (n : Word), P (Row.jpCond cc n))
    (jpN16 : ∀ n : Word, P (.jpN16 n))
    (callCond : ∀ (cc : Cond) (n : Word), P (Row.callCond cc n))
    (push : ∀ (p : StackReg), P (Row.push p))
    (aluN8 : ∀ (op : AluOp) (n : Byte), P (Row.aluN8 op n))
    (rst : ∀ (y : Fin 8), P (Row.rst y))
    (ret : P .ret)
    (prefixCb : P .prefixCb)
    (callN16 : ∀ n : Word, P (.callN16 n))
    (unused : ∀ (u : UnusedOpcode), P (Row.unused u))
    (reti : P .reti)
    (ldhAtA8A : ∀ a : Byte, P (.ldhAtA8A a))
    (ldAtCA : P .ldAtCA)
    (addSpE8 : ∀ e : Byte, P (.addSpE8 e))
    (jpHl : P .jpHl)
    (ldAtN16A : ∀ n : Word, P (.ldAtN16A n))
    (ldhAAtA8 : ∀ a : Byte, P (.ldhAAtA8 a))
    (ldAAtC : P .ldAAtC)
    (di : P .di)
    (ldHlSpE8 : ∀ e : Byte, P (.ldHlSpE8 e))
    (ldSpHl : P .ldSpHl)
    (ldAAtN16 : ∀ n : Word, P (.ldAAtN16 n))
    (ei : P .ei)
    (shift : ∀ (op : ShiftOp) (o : Operand8), P (Row.shift op o))
    (bit : ∀ (b : Fin 8) (o : Operand8), P (Row.bit b o))
    (res : ∀ (b : Fin 8) (o : Operand8), P (Row.res b o))
    (set : ∀ (b : Fin 8) (o : Operand8), P (Row.set b o))
    (i : Instr) : P i := by
  cases i with
  | nop => exact nop
  | ldBcN16 n => exact ldPairN16 .bc n
  | ldAtBcA => exact ldAtMemA .bc
  | incBc => exact inc16 .bc
  | incB => exact inc8 (.reg .b)
  | decB => exact dec8 (.reg .b)
  | ldBN8 n => exact ldRegN8 .b n
  | rlca => exact rlca
  | ldAtN16Sp n => exact ldAtN16Sp n
  | addHlBc => exact addHl .bc
  | ldAAtBc => exact ldAAtMem .bc
  | decBc => exact dec16 .bc
  | incC => exact inc8 (.reg .c)
  | decC => exact dec8 (.reg .c)
  | ldCN8 n => exact ldRegN8 .c n
  | rrca => exact rrca
  | stop ignored => exact stop ignored
  | ldDeN16 n => exact ldPairN16 .de n
  | ldAtDeA => exact ldAtMemA .de
  | incDe => exact inc16 .de
  | incD => exact inc8 (.reg .d)
  | decD => exact dec8 (.reg .d)
  | ldDN8 n => exact ldRegN8 .d n
  | rla => exact rla
  | jrE8 e => exact jrE8 e
  | addHlDe => exact addHl .de
  | ldAAtDe => exact ldAAtMem .de
  | decDe => exact dec16 .de
  | incE => exact inc8 (.reg .e)
  | decE => exact dec8 (.reg .e)
  | ldEN8 n => exact ldRegN8 .e n
  | rra => exact rra
  | jrNzE8 e => exact jrCond .nz e
  | ldHlN16 n => exact ldPairN16 .hl n
  | ldAtHlIncA => exact ldAtMemA .hlInc
  | incHl => exact inc16 .hl
  | incH => exact inc8 (.reg .h)
  | decH => exact dec8 (.reg .h)
  | ldHN8 n => exact ldRegN8 .h n
  | daa => exact daa
  | jrZE8 e => exact jrCond .z e
  | addHlHl => exact addHl .hl
  | ldAAtHlInc => exact ldAAtMem .hlInc
  | decHl => exact dec16 .hl
  | incL => exact inc8 (.reg .l)
  | decL => exact dec8 (.reg .l)
  | ldLN8 n => exact ldRegN8 .l n
  | cpl => exact cpl
  | jrNcE8 e => exact jrCond .nc e
  | ldSpN16 n => exact ldPairN16 .sp n
  | ldAtHlDecA => exact ldAtMemA .hlDec
  | incSp => exact inc16 .sp
  | incAtHl => exact inc8 .atHl
  | decAtHl => exact dec8 .atHl
  | ldAtHlN8 n => exact ldAtHlN8 n
  | scf => exact scf
  | jrCE8 e => exact jrCond .c e
  | addHlSp => exact addHl .sp
  | ldAAtHlDec => exact ldAAtMem .hlDec
  | decSp => exact dec16 .sp
  | incA => exact inc8 (.reg .a)
  | decA => exact dec8 (.reg .a)
  | ldAN8 n => exact ldRegN8 .a n
  | ccf => exact ccf
  | ldBB => exact ldRegReg .b .b
  | ldBC => exact ldRegReg .b .c
  | ldBD => exact ldRegReg .b .d
  | ldBE => exact ldRegReg .b .e
  | ldBH => exact ldRegReg .b .h
  | ldBL => exact ldRegReg .b .l
  | ldBAtHl => exact ldRegAtHl .b
  | ldBA => exact ldRegReg .b .a
  | ldCB => exact ldRegReg .c .b
  | ldCC => exact ldRegReg .c .c
  | ldCD => exact ldRegReg .c .d
  | ldCE => exact ldRegReg .c .e
  | ldCH => exact ldRegReg .c .h
  | ldCL => exact ldRegReg .c .l
  | ldCAtHl => exact ldRegAtHl .c
  | ldCA => exact ldRegReg .c .a
  | ldDB => exact ldRegReg .d .b
  | ldDC => exact ldRegReg .d .c
  | ldDD => exact ldRegReg .d .d
  | ldDE => exact ldRegReg .d .e
  | ldDH => exact ldRegReg .d .h
  | ldDL => exact ldRegReg .d .l
  | ldDAtHl => exact ldRegAtHl .d
  | ldDA => exact ldRegReg .d .a
  | ldEB => exact ldRegReg .e .b
  | ldEC => exact ldRegReg .e .c
  | ldED => exact ldRegReg .e .d
  | ldEE => exact ldRegReg .e .e
  | ldEH => exact ldRegReg .e .h
  | ldEL => exact ldRegReg .e .l
  | ldEAtHl => exact ldRegAtHl .e
  | ldEA => exact ldRegReg .e .a
  | ldHB => exact ldRegReg .h .b
  | ldHC => exact ldRegReg .h .c
  | ldHD => exact ldRegReg .h .d
  | ldHE => exact ldRegReg .h .e
  | ldHH => exact ldRegReg .h .h
  | ldHL => exact ldRegReg .h .l
  | ldHAtHl => exact ldRegAtHl .h
  | ldHA => exact ldRegReg .h .a
  | ldLB => exact ldRegReg .l .b
  | ldLC => exact ldRegReg .l .c
  | ldLD => exact ldRegReg .l .d
  | ldLE => exact ldRegReg .l .e
  | ldLH => exact ldRegReg .l .h
  | ldLL => exact ldRegReg .l .l
  | ldLAtHl => exact ldRegAtHl .l
  | ldLA => exact ldRegReg .l .a
  | ldAtHlB => exact ldAtHlReg .b
  | ldAtHlC => exact ldAtHlReg .c
  | ldAtHlD => exact ldAtHlReg .d
  | ldAtHlE => exact ldAtHlReg .e
  | ldAtHlH => exact ldAtHlReg .h
  | ldAtHlL => exact ldAtHlReg .l
  | halt => exact halt
  | ldAtHlA => exact ldAtHlReg .a
  | ldAB => exact ldRegReg .a .b
  | ldAC => exact ldRegReg .a .c
  | ldAD => exact ldRegReg .a .d
  | ldAE => exact ldRegReg .a .e
  | ldAH => exact ldRegReg .a .h
  | ldAL => exact ldRegReg .a .l
  | ldAAtHl => exact ldRegAtHl .a
  | ldAA => exact ldRegReg .a .a
  | addAB => exact alu .add (.reg .b)
  | addAC => exact alu .add (.reg .c)
  | addAD => exact alu .add (.reg .d)
  | addAE => exact alu .add (.reg .e)
  | addAH => exact alu .add (.reg .h)
  | addAL => exact alu .add (.reg .l)
  | addAAtHl => exact alu .add .atHl
  | addAA => exact alu .add (.reg .a)
  | adcAB => exact alu .adc (.reg .b)
  | adcAC => exact alu .adc (.reg .c)
  | adcAD => exact alu .adc (.reg .d)
  | adcAE => exact alu .adc (.reg .e)
  | adcAH => exact alu .adc (.reg .h)
  | adcAL => exact alu .adc (.reg .l)
  | adcAAtHl => exact alu .adc .atHl
  | adcAA => exact alu .adc (.reg .a)
  | subB => exact alu .sub (.reg .b)
  | subC => exact alu .sub (.reg .c)
  | subD => exact alu .sub (.reg .d)
  | subE => exact alu .sub (.reg .e)
  | subH => exact alu .sub (.reg .h)
  | subL => exact alu .sub (.reg .l)
  | subAtHl => exact alu .sub .atHl
  | subA => exact alu .sub (.reg .a)
  | sbcAB => exact alu .sbc (.reg .b)
  | sbcAC => exact alu .sbc (.reg .c)
  | sbcAD => exact alu .sbc (.reg .d)
  | sbcAE => exact alu .sbc (.reg .e)
  | sbcAH => exact alu .sbc (.reg .h)
  | sbcAL => exact alu .sbc (.reg .l)
  | sbcAAtHl => exact alu .sbc .atHl
  | sbcAA => exact alu .sbc (.reg .a)
  | andB => exact alu .and (.reg .b)
  | andC => exact alu .and (.reg .c)
  | andD => exact alu .and (.reg .d)
  | andE => exact alu .and (.reg .e)
  | andH => exact alu .and (.reg .h)
  | andL => exact alu .and (.reg .l)
  | andAtHl => exact alu .and .atHl
  | andA => exact alu .and (.reg .a)
  | xorB => exact alu .xor (.reg .b)
  | xorC => exact alu .xor (.reg .c)
  | xorD => exact alu .xor (.reg .d)
  | xorE => exact alu .xor (.reg .e)
  | xorH => exact alu .xor (.reg .h)
  | xorL => exact alu .xor (.reg .l)
  | xorAtHl => exact alu .xor .atHl
  | xorA => exact alu .xor (.reg .a)
  | orB => exact alu .or (.reg .b)
  | orC => exact alu .or (.reg .c)
  | orD => exact alu .or (.reg .d)
  | orE => exact alu .or (.reg .e)
  | orH => exact alu .or (.reg .h)
  | orL => exact alu .or (.reg .l)
  | orAtHl => exact alu .or .atHl
  | orA => exact alu .or (.reg .a)
  | cpB => exact alu .cp (.reg .b)
  | cpC => exact alu .cp (.reg .c)
  | cpD => exact alu .cp (.reg .d)
  | cpE => exact alu .cp (.reg .e)
  | cpH => exact alu .cp (.reg .h)
  | cpL => exact alu .cp (.reg .l)
  | cpAtHl => exact alu .cp .atHl
  | cpA => exact alu .cp (.reg .a)
  | retNz => exact retCond .nz
  | popBc => exact pop .bc
  | jpNzN16 n => exact jpCond .nz n
  | jpN16 n => exact jpN16 n
  | callNzN16 n => exact callCond .nz n
  | pushBc => exact push .bc
  | addAN8 n => exact aluN8 .add n
  | rst00 => exact rst 0
  | retZ => exact retCond .z
  | ret => exact ret
  | jpZN16 n => exact jpCond .z n
  | prefixCb => exact prefixCb
  | callZN16 n => exact callCond .z n
  | callN16 n => exact callN16 n
  | adcAN8 n => exact aluN8 .adc n
  | rst08 => exact rst 1
  | retNc => exact retCond .nc
  | popDe => exact pop .de
  | jpNcN16 n => exact jpCond .nc n
  | unusedD3 => exact unused .d3
  | callNcN16 n => exact callCond .nc n
  | pushDe => exact push .de
  | subN8 n => exact aluN8 .sub n
  | rst10 => exact rst 2
  | retC => exact retCond .c
  | reti => exact reti
  | jpCN16 n => exact jpCond .c n
  | unusedDb => exact unused .db
  | callCN16 n => exact callCond .c n
  | unusedDd => exact unused .dd
  | sbcAN8 n => exact aluN8 .sbc n
  | rst18 => exact rst 3
  | ldhAtA8A a => exact ldhAtA8A a
  | popHl => exact pop .hl
  | ldAtCA => exact ldAtCA
  | unusedE3 => exact unused .e3
  | unusedE4 => exact unused .e4
  | pushHl => exact push .hl
  | andN8 n => exact aluN8 .and n
  | rst20 => exact rst 4
  | addSpE8 e => exact addSpE8 e
  | jpHl => exact jpHl
  | ldAtN16A n => exact ldAtN16A n
  | unusedEb => exact unused .eb
  | unusedEc => exact unused .ec
  | unusedEd => exact unused .ed
  | xorN8 n => exact aluN8 .xor n
  | rst28 => exact rst 5
  | ldhAAtA8 a => exact ldhAAtA8 a
  | popAf => exact pop .af
  | ldAAtC => exact ldAAtC
  | di => exact di
  | unusedF4 => exact unused .f4
  | pushAf => exact push .af
  | orN8 n => exact aluN8 .or n
  | rst30 => exact rst 6
  | ldHlSpE8 e => exact ldHlSpE8 e
  | ldSpHl => exact ldSpHl
  | ldAAtN16 n => exact ldAAtN16 n
  | ei => exact ei
  | unusedFc => exact unused .fc
  | unusedFd => exact unused .fd
  | cpN8 n => exact aluN8 .cp n
  | rst38 => exact rst 7
  | rlcB => exact shift .rlc (.reg .b)
  | rlcC => exact shift .rlc (.reg .c)
  | rlcD => exact shift .rlc (.reg .d)
  | rlcE => exact shift .rlc (.reg .e)
  | rlcH => exact shift .rlc (.reg .h)
  | rlcL => exact shift .rlc (.reg .l)
  | rlcAtHl => exact shift .rlc .atHl
  | rlcA => exact shift .rlc (.reg .a)
  | rrcB => exact shift .rrc (.reg .b)
  | rrcC => exact shift .rrc (.reg .c)
  | rrcD => exact shift .rrc (.reg .d)
  | rrcE => exact shift .rrc (.reg .e)
  | rrcH => exact shift .rrc (.reg .h)
  | rrcL => exact shift .rrc (.reg .l)
  | rrcAtHl => exact shift .rrc .atHl
  | rrcA => exact shift .rrc (.reg .a)
  | rlB => exact shift .rl (.reg .b)
  | rlC => exact shift .rl (.reg .c)
  | rlD => exact shift .rl (.reg .d)
  | rlE => exact shift .rl (.reg .e)
  | rlH => exact shift .rl (.reg .h)
  | rlL => exact shift .rl (.reg .l)
  | rlAtHl => exact shift .rl .atHl
  | rlA => exact shift .rl (.reg .a)
  | rrB => exact shift .rr (.reg .b)
  | rrC => exact shift .rr (.reg .c)
  | rrD => exact shift .rr (.reg .d)
  | rrE => exact shift .rr (.reg .e)
  | rrH => exact shift .rr (.reg .h)
  | rrL => exact shift .rr (.reg .l)
  | rrAtHl => exact shift .rr .atHl
  | rrA => exact shift .rr (.reg .a)
  | slaB => exact shift .sla (.reg .b)
  | slaC => exact shift .sla (.reg .c)
  | slaD => exact shift .sla (.reg .d)
  | slaE => exact shift .sla (.reg .e)
  | slaH => exact shift .sla (.reg .h)
  | slaL => exact shift .sla (.reg .l)
  | slaAtHl => exact shift .sla .atHl
  | slaA => exact shift .sla (.reg .a)
  | sraB => exact shift .sra (.reg .b)
  | sraC => exact shift .sra (.reg .c)
  | sraD => exact shift .sra (.reg .d)
  | sraE => exact shift .sra (.reg .e)
  | sraH => exact shift .sra (.reg .h)
  | sraL => exact shift .sra (.reg .l)
  | sraAtHl => exact shift .sra .atHl
  | sraA => exact shift .sra (.reg .a)
  | swapB => exact shift .swap (.reg .b)
  | swapC => exact shift .swap (.reg .c)
  | swapD => exact shift .swap (.reg .d)
  | swapE => exact shift .swap (.reg .e)
  | swapH => exact shift .swap (.reg .h)
  | swapL => exact shift .swap (.reg .l)
  | swapAtHl => exact shift .swap .atHl
  | swapA => exact shift .swap (.reg .a)
  | srlB => exact shift .srl (.reg .b)
  | srlC => exact shift .srl (.reg .c)
  | srlD => exact shift .srl (.reg .d)
  | srlE => exact shift .srl (.reg .e)
  | srlH => exact shift .srl (.reg .h)
  | srlL => exact shift .srl (.reg .l)
  | srlAtHl => exact shift .srl .atHl
  | srlA => exact shift .srl (.reg .a)
  | bit0B => exact bit 0 (.reg .b)
  | bit0C => exact bit 0 (.reg .c)
  | bit0D => exact bit 0 (.reg .d)
  | bit0E => exact bit 0 (.reg .e)
  | bit0H => exact bit 0 (.reg .h)
  | bit0L => exact bit 0 (.reg .l)
  | bit0AtHl => exact bit 0 .atHl
  | bit0A => exact bit 0 (.reg .a)
  | bit1B => exact bit 1 (.reg .b)
  | bit1C => exact bit 1 (.reg .c)
  | bit1D => exact bit 1 (.reg .d)
  | bit1E => exact bit 1 (.reg .e)
  | bit1H => exact bit 1 (.reg .h)
  | bit1L => exact bit 1 (.reg .l)
  | bit1AtHl => exact bit 1 .atHl
  | bit1A => exact bit 1 (.reg .a)
  | bit2B => exact bit 2 (.reg .b)
  | bit2C => exact bit 2 (.reg .c)
  | bit2D => exact bit 2 (.reg .d)
  | bit2E => exact bit 2 (.reg .e)
  | bit2H => exact bit 2 (.reg .h)
  | bit2L => exact bit 2 (.reg .l)
  | bit2AtHl => exact bit 2 .atHl
  | bit2A => exact bit 2 (.reg .a)
  | bit3B => exact bit 3 (.reg .b)
  | bit3C => exact bit 3 (.reg .c)
  | bit3D => exact bit 3 (.reg .d)
  | bit3E => exact bit 3 (.reg .e)
  | bit3H => exact bit 3 (.reg .h)
  | bit3L => exact bit 3 (.reg .l)
  | bit3AtHl => exact bit 3 .atHl
  | bit3A => exact bit 3 (.reg .a)
  | bit4B => exact bit 4 (.reg .b)
  | bit4C => exact bit 4 (.reg .c)
  | bit4D => exact bit 4 (.reg .d)
  | bit4E => exact bit 4 (.reg .e)
  | bit4H => exact bit 4 (.reg .h)
  | bit4L => exact bit 4 (.reg .l)
  | bit4AtHl => exact bit 4 .atHl
  | bit4A => exact bit 4 (.reg .a)
  | bit5B => exact bit 5 (.reg .b)
  | bit5C => exact bit 5 (.reg .c)
  | bit5D => exact bit 5 (.reg .d)
  | bit5E => exact bit 5 (.reg .e)
  | bit5H => exact bit 5 (.reg .h)
  | bit5L => exact bit 5 (.reg .l)
  | bit5AtHl => exact bit 5 .atHl
  | bit5A => exact bit 5 (.reg .a)
  | bit6B => exact bit 6 (.reg .b)
  | bit6C => exact bit 6 (.reg .c)
  | bit6D => exact bit 6 (.reg .d)
  | bit6E => exact bit 6 (.reg .e)
  | bit6H => exact bit 6 (.reg .h)
  | bit6L => exact bit 6 (.reg .l)
  | bit6AtHl => exact bit 6 .atHl
  | bit6A => exact bit 6 (.reg .a)
  | bit7B => exact bit 7 (.reg .b)
  | bit7C => exact bit 7 (.reg .c)
  | bit7D => exact bit 7 (.reg .d)
  | bit7E => exact bit 7 (.reg .e)
  | bit7H => exact bit 7 (.reg .h)
  | bit7L => exact bit 7 (.reg .l)
  | bit7AtHl => exact bit 7 .atHl
  | bit7A => exact bit 7 (.reg .a)
  | res0B => exact res 0 (.reg .b)
  | res0C => exact res 0 (.reg .c)
  | res0D => exact res 0 (.reg .d)
  | res0E => exact res 0 (.reg .e)
  | res0H => exact res 0 (.reg .h)
  | res0L => exact res 0 (.reg .l)
  | res0AtHl => exact res 0 .atHl
  | res0A => exact res 0 (.reg .a)
  | res1B => exact res 1 (.reg .b)
  | res1C => exact res 1 (.reg .c)
  | res1D => exact res 1 (.reg .d)
  | res1E => exact res 1 (.reg .e)
  | res1H => exact res 1 (.reg .h)
  | res1L => exact res 1 (.reg .l)
  | res1AtHl => exact res 1 .atHl
  | res1A => exact res 1 (.reg .a)
  | res2B => exact res 2 (.reg .b)
  | res2C => exact res 2 (.reg .c)
  | res2D => exact res 2 (.reg .d)
  | res2E => exact res 2 (.reg .e)
  | res2H => exact res 2 (.reg .h)
  | res2L => exact res 2 (.reg .l)
  | res2AtHl => exact res 2 .atHl
  | res2A => exact res 2 (.reg .a)
  | res3B => exact res 3 (.reg .b)
  | res3C => exact res 3 (.reg .c)
  | res3D => exact res 3 (.reg .d)
  | res3E => exact res 3 (.reg .e)
  | res3H => exact res 3 (.reg .h)
  | res3L => exact res 3 (.reg .l)
  | res3AtHl => exact res 3 .atHl
  | res3A => exact res 3 (.reg .a)
  | res4B => exact res 4 (.reg .b)
  | res4C => exact res 4 (.reg .c)
  | res4D => exact res 4 (.reg .d)
  | res4E => exact res 4 (.reg .e)
  | res4H => exact res 4 (.reg .h)
  | res4L => exact res 4 (.reg .l)
  | res4AtHl => exact res 4 .atHl
  | res4A => exact res 4 (.reg .a)
  | res5B => exact res 5 (.reg .b)
  | res5C => exact res 5 (.reg .c)
  | res5D => exact res 5 (.reg .d)
  | res5E => exact res 5 (.reg .e)
  | res5H => exact res 5 (.reg .h)
  | res5L => exact res 5 (.reg .l)
  | res5AtHl => exact res 5 .atHl
  | res5A => exact res 5 (.reg .a)
  | res6B => exact res 6 (.reg .b)
  | res6C => exact res 6 (.reg .c)
  | res6D => exact res 6 (.reg .d)
  | res6E => exact res 6 (.reg .e)
  | res6H => exact res 6 (.reg .h)
  | res6L => exact res 6 (.reg .l)
  | res6AtHl => exact res 6 .atHl
  | res6A => exact res 6 (.reg .a)
  | res7B => exact res 7 (.reg .b)
  | res7C => exact res 7 (.reg .c)
  | res7D => exact res 7 (.reg .d)
  | res7E => exact res 7 (.reg .e)
  | res7H => exact res 7 (.reg .h)
  | res7L => exact res 7 (.reg .l)
  | res7AtHl => exact res 7 .atHl
  | res7A => exact res 7 (.reg .a)
  | set0B => exact set 0 (.reg .b)
  | set0C => exact set 0 (.reg .c)
  | set0D => exact set 0 (.reg .d)
  | set0E => exact set 0 (.reg .e)
  | set0H => exact set 0 (.reg .h)
  | set0L => exact set 0 (.reg .l)
  | set0AtHl => exact set 0 .atHl
  | set0A => exact set 0 (.reg .a)
  | set1B => exact set 1 (.reg .b)
  | set1C => exact set 1 (.reg .c)
  | set1D => exact set 1 (.reg .d)
  | set1E => exact set 1 (.reg .e)
  | set1H => exact set 1 (.reg .h)
  | set1L => exact set 1 (.reg .l)
  | set1AtHl => exact set 1 .atHl
  | set1A => exact set 1 (.reg .a)
  | set2B => exact set 2 (.reg .b)
  | set2C => exact set 2 (.reg .c)
  | set2D => exact set 2 (.reg .d)
  | set2E => exact set 2 (.reg .e)
  | set2H => exact set 2 (.reg .h)
  | set2L => exact set 2 (.reg .l)
  | set2AtHl => exact set 2 .atHl
  | set2A => exact set 2 (.reg .a)
  | set3B => exact set 3 (.reg .b)
  | set3C => exact set 3 (.reg .c)
  | set3D => exact set 3 (.reg .d)
  | set3E => exact set 3 (.reg .e)
  | set3H => exact set 3 (.reg .h)
  | set3L => exact set 3 (.reg .l)
  | set3AtHl => exact set 3 .atHl
  | set3A => exact set 3 (.reg .a)
  | set4B => exact set 4 (.reg .b)
  | set4C => exact set 4 (.reg .c)
  | set4D => exact set 4 (.reg .d)
  | set4E => exact set 4 (.reg .e)
  | set4H => exact set 4 (.reg .h)
  | set4L => exact set 4 (.reg .l)
  | set4AtHl => exact set 4 .atHl
  | set4A => exact set 4 (.reg .a)
  | set5B => exact set 5 (.reg .b)
  | set5C => exact set 5 (.reg .c)
  | set5D => exact set 5 (.reg .d)
  | set5E => exact set 5 (.reg .e)
  | set5H => exact set 5 (.reg .h)
  | set5L => exact set 5 (.reg .l)
  | set5AtHl => exact set 5 .atHl
  | set5A => exact set 5 (.reg .a)
  | set6B => exact set 6 (.reg .b)
  | set6C => exact set 6 (.reg .c)
  | set6D => exact set 6 (.reg .d)
  | set6E => exact set 6 (.reg .e)
  | set6H => exact set 6 (.reg .h)
  | set6L => exact set 6 (.reg .l)
  | set6AtHl => exact set 6 .atHl
  | set6A => exact set 6 (.reg .a)
  | set7B => exact set 7 (.reg .b)
  | set7C => exact set 7 (.reg .c)
  | set7D => exact set 7 (.reg .d)
  | set7E => exact set 7 (.reg .e)
  | set7H => exact set 7 (.reg .h)
  | set7L => exact set 7 (.reg .l)
  | set7AtHl => exact set 7 .atHl
  | set7A => exact set 7 (.reg .a)

end Sys2Proof
end

