-- ==== Sys2Proof/Laws/Closed.lean ====
section
/-! SUPPORT. Everything an instruction can do: the moves it is made of. A property that these moves keep is kept by every
instruction. -/

namespace Sys2Proof.Machine

/-- The moves an instruction is made of, beside halting, stopping and the panic. -/
structure CpuClosed (P : State → Prop) : Prop extends BusClosed P where
  reg : ∀ s r v, P s → P (s.setReg8 r v)
  f : ∀ s v, v &&& 0x0F = 0 → P s → P { s with f := v }
  sp : ∀ s v, P s → P { s with sp := v }
  pc : ∀ s v, P s → P { s with pc := v }
  ime : ∀ s v, P s → P { s with ime := v }
  latch : ∀ s v, P s → P { s with eiLatch := v }
  cycles : ∀ s n, P s → P { s with cpuCycles := n }

section

variable {P : State → Prop} (hP : CpuClosed P) {s : State}

include hP

theorem CpuClosed.charge (n : Nat) (h : P s) : P (s.charge n) := hP.cycles _ _ h

theorem CpuClosed.setFlags (fl : Flags) (h : P s) : P (s.setFlags fl) := hP.f _ _ (toByte_lowNibble fl) h

theorem CpuClosed.writeF (v : Byte) (h : P s) : P (s.writeF v) := by
  refine hP.f _ _ ?_ h
  rw [BitVec.and_assoc, show (0xF0 : Byte) &&& 0x0F = 0#8 from rfl, BitVec.and_zero]
  rfl

theorem CpuClosed.setHl (v : Word) (h : P s) : P (s.setHl v) :=
  hP.reg _ .l (loByte v) (hP.reg _ .h (hiByte v) h)

theorem CpuClosed.setReg16 (p : Reg16) (v : Word) (h : P s) : P (s.setReg16 p v) := by
  cases p
  · exact hP.reg _ .c (loByte v) (hP.reg _ .b (hiByte v) h)
  · exact hP.reg _ .e (loByte v) (hP.reg _ .d (hiByte v) h)
  · exact hP.setHl v h
  · exact hP.sp _ _ h

theorem CpuClosed.setStackReg (p : StackReg) (v : Word) (h : P s) : P (s.setStackReg p v) := by
  cases p
  · exact hP.setReg16 .bc v h
  · exact hP.setReg16 .de v h
  · exact hP.setReg16 .hl v h
  · exact hP.writeF _ (hP.reg _ .a _ h)

theorem CpuClosed.setAccumulator (r : Byte × Flags) (h : P s) : P (s.setAccumulator r) :=
  hP.setFlags _ (hP.reg _ .a _ h)

theorem CpuClosed.memWrite (a : Word) (v : Byte) (h : P s) : P (s.memWrite a v) := memWrite_closed hP.toBusClosed a v h

theorem CpuClosed.push16 (v : Word) (h : P s) : P (s.push16 v) := push16_closed hP.toBusClosed hP.sp v h

theorem CpuClosed.setOperand8 (o : Operand8) (v : Byte) (h : P s) : P (s.setOperand8 o v) := by
  cases o
  · exact hP.reg _ _ _ h
  · exact hP.memWrite _ _ h

theorem CpuClosed.memRegAfter (p : MemReg) (h : P s) : P (s.memRegAfter p) := by
  cases p
  · exact h
  · exact h
  · exact hP.setHl _ h
  · exact hP.setHl _ h

theorem CpuClosed.fetch8 (h : P s) : P s.fetch8.2 := hP.pc _ _ h

theorem CpuClosed.dropTop (h : P s) : P s.dropTop := hP.sp _ _ h

theorem CpuClosed.branchIf (cc : Cond) (n : Nat) {branch : State → State} (hb : P (branch s)) (h : P s) :
    P (branchIf cc n branch s) := by
  unfold Machine.branchIf
  split
  · exact hP.charge n hb
  · exact h

theorem CpuClosed.jumpTo (t : Word) (h : P s) : P (jumpTo t s) := hP.pc _ _ h

theorem CpuClosed.callTo (t : Word) (h : P s) : P (callTo t s) := hP.pc _ _ (hP.push16 _ h)

theorem CpuClosed.returnToCaller (h : P s) : P (returnToCaller s) := hP.pc _ _ (hP.dropTop h)

theorem CpuClosed.extOperation (op2 : Byte) (h : P s) : P (extOperation op2 s) := by
  unfold Machine.extOperation
  generalize fieldX op2 = x
  fin_cases x
  · exact hP.setFlags _ (hP.setOperand8 _ _ h)
  · exact hP.setFlags _ h
  · exact hP.setOperand8 _ _ h
  · exact hP.setOperand8 _ _ h

end

/-- What `exec` can answer: the state after moves of `CpuClosed`, a halt, a stop, or a panic. -/
theorem exec_cases {P : State → Prop} (hP : CpuClosed P) (i : Instr) {s t : State} (h : P s) (he : exec i s = .next t) :
    P t ∨ (i = .halt ∧ t = (haltCpu s).charge 4) ∨ ((∃ n, i = .stop n) ∧ t = (stopCpu s).charge 4) ∨
      ∃ u : UnusedOpcode, i = Row.unused u ∧
        t = s.raisePanic { opcode := u.byte, isExtended := false, foundAtAddress := s.pc - 1 } := by
  have key : ∀ {n : Nat} {u : State}, complete n u = .next t → P u → P t := by
    intro n u e hu
    have : u.charge n = t := by simpa [complete] using e
    exact this ▸ hP.charge n hu
  induction i using Instr.byRow with
  | nop => exact .inl (key he h)
  | ldPairN16 p n => rw [exec_ldPairN16] at he; exact .inl (key he (hP.setReg16 _ _ h))
  | ldAtMemA p => rw [exec_ldAtMemA] at he; exact .inl (key he (hP.memRegAfter _ (hP.memWrite _ _ h)))
  | inc16 p => rw [exec_inc16] at he; exact .inl (key he (hP.setReg16 _ _ h))
  | inc8 o => rw [exec_inc8] at he; exact .inl (key he (hP.setOperand8 _ _ (hP.setFlags _ h)))
  | dec8 o => rw [exec_dec8] at he; exact .inl (key he (hP.setOperand8 _ _ (hP.setFlags _ h)))
  | ldRegN8 r n => rw [exec_ldRegN8] at he; exact .inl (key he (hP.reg _ _ _ h))
  | rlca => exact .inl (key he (hP.setAccumulator _ h))
  | ldAtN16Sp n => exact .inl (key he (memWrite16_closed hP.toBusClosed _ _ h))
  | addHl p => rw [exec_addHl] at he; exact .inl (key he (hP.setFlags _ (hP.setHl _ h)))
  | ldAAtMem p => rw [exec_ldAAtMem] at he; exact .inl (key he (hP.memRegAfter _ (hP.reg _ .a _ h)))
  | dec16 p => rw [exec_dec16] at he; exact .inl (key he (hP.setReg16 _ _ h))
  | rrca => exact .inl (key he (hP.setAccumulator _ h))
  | stop n =>
    refine .inr (.inr (.inl ⟨⟨n, rfl⟩, ?_⟩))
    have : (stopCpu s).charge 4 = t := by simpa [exec_stop, complete] using he
    exact this.symm
  | rla => exact .inl (key he (hP.setAccumulator _ h))
  | jrE8 e => exact .inl (key he (hP.pc _ _ h))
  | rra => exact .inl (key he (hP.setAccumulator _ h))
  | jrCond cc e => rw [exec_jrCond] at he; exact .inl (key he (hP.branchIf _ _ (hP.pc _ _ h) h))
  | daa => exact .inl (key he (hP.setAccumulator _ h))
  | cpl => exact .inl (key he (hP.setFlags _ (hP.reg _ .a _ h)))
  | ldAtHlN8 n => exact .inl (key he (hP.memWrite _ _ h))
  | scf => exact .inl (key he (hP.setFlags _ h))
  | ccf => exact .inl (key he (hP.setFlags _ h))
  | ldRegReg dst src => rw [exec_ldRegReg] at he; exact .inl (key he (hP.reg _ _ _ h))
  | ldRegAtHl r => rw [exec_ldRegAtHl] at he; exact .inl (key he (hP.reg _ _ _ h))
  | ldAtHlReg r => rw [exec_ldAtHlReg] at he; exact .inl (key he (hP.memWrite _ _ h))
  | halt =>
    refine .inr (.inl ⟨rfl, ?_⟩)
    have : (haltCpu s).charge 4 = t := by simpa [exec_halt, complete] using he
    exact this.symm
  | alu op o => rw [exec_alu] at he; exact .inl (key he (hP.setAccumulator _ h))
  | retCond cc => rw [exec_retCond] at he; exact .inl (key he (hP.branchIf _ _ (hP.returnToCaller h) h))
  | pop p => rw [exec_pop] at he; exact .inl (key he (hP.setStackReg _ _ (hP.dropTop h)))
  | jpCond cc n => rw [exec_jpCond] at he; exact .inl (key he (hP.branchIf _ _ (hP.jumpTo _ h) h))
  | jpN16 n => exact .inl (key he (hP.jumpTo _ h))
  | callCond cc n => rw [exec_callCond] at he; exact .inl (key he (hP.branchIf _ _ (hP.callTo _ h) h))
  | push p => rw [exec_push] at he; exact .inl (key he (hP.push16 _ h))
  | aluN8 op n => rw [exec_aluN8] at he; exact .inl (key he (hP.setAccumulator _ h))
  | rst y => rw [exec_rst] at he; exact .inl (key he (hP.callTo _ h))
  | ret => exact .inl (key he (hP.returnToCaller h))
  | prefixCb => exact .inl (key he (hP.extOperation _ (hP.fetch8 h)))
  | callN16 n => exact .inl (key he (hP.callTo _ h))
  | unused u =>
    rw [exec_unused] at he
    refine .inr (.inr (.inr ⟨u, rfl, ?_⟩))
    have := (Host.Outcome.next.inj he)
    exact this.symm
  | reti => exact .inl (key he (hP.ime { s.dropTop with pc := s.stackTop } true (hP.pc _ _ (hP.dropTop h))))
  | ldhAtA8A a => exact .inl (key he (hP.memWrite _ _ h))
  | ldAtCA => exact .inl (key he (hP.memWrite _ _ h))
  | addSpE8 e => exact .inl (key he (hP.setFlags _ (hP.sp _ _ h)))
  | jpHl => exact .inl (key he (hP.jumpTo _ h))
  | ldAtN16A n => exact .inl (key he (hP.memWrite _ _ h))
  | ldhAAtA8 a => exact .inl (key he (hP.reg _ .a _ h))
  | ldAAtC => exact .inl (key he (hP.reg _ .a _ h))
  | di => exact .inl (key he (hP.ime _ _ h))
  | ldHlSpE8 e => exact .inl (key he (hP.setFlags _ (hP.setHl _ h)))
  | ldSpHl => exact .inl (key he (hP.sp _ _ h))
  | ldAAtN16 n => exact .inl (key he (hP.reg _ .a _ h))
  | ei => exact .inl (key he (hP.latch { s with ime := true } true (hP.ime _ _ h)))
  | shift op o => rw [exec_shift] at he; exact .inl (key he (hP.setFlags _ (hP.setOperand8 _ _ h)))
  | bit b o => rw [exec_bit] at he; exact .inl (key he (hP.setFlags _ h))
  | res b o => rw [exec_res] at he; exact .inl (key he (hP.setOperand8 _ _ h))
  | set b o => rw [exec_set] at he; exact .inl (key he (hP.setOperand8 _ _ h))

/-- `exec` answers a next state for every instruction in every state. -/
theorem exec_next (i : Instr) (s : State) : ∃ t, exec i s = .next t := by
  induction i using Instr.byRow with
  | ldPairN16 p n => exact ⟨_, exec_ldPairN16 p n s⟩
  | ldAtMemA p => exact ⟨_, exec_ldAtMemA p s⟩
  | inc16 p => exact ⟨_, exec_inc16 p s⟩
  | inc8 o => exact ⟨_, exec_inc8 o s⟩
  | dec8 o => exact ⟨_, exec_dec8 o s⟩
  | ldRegN8 r n => exact ⟨_, exec_ldRegN8 r n s⟩
  | addHl p => exact ⟨_, exec_addHl p s⟩
  | ldAAtMem p => exact ⟨_, exec_ldAAtMem p s⟩
  | dec16 p => exact ⟨_, exec_dec16 p s⟩
  | jrCond cc e => exact ⟨_, exec_jrCond cc e s⟩
  | ldRegReg dst src => exact ⟨_, exec_ldRegReg dst src s⟩
  | ldRegAtHl r => exact ⟨_, exec_ldRegAtHl r s⟩
  | ldAtHlReg r => exact ⟨_, exec_ldAtHlReg r s⟩
  | alu op o => exact ⟨_, exec_alu op o s⟩
  | retCond cc => exact ⟨_, exec_retCond cc s⟩
  | pop p => exact ⟨_, exec_pop p s⟩
  | jpCond cc n => exact ⟨_, exec_jpCond cc n s⟩
  | callCond cc n => exact ⟨_, exec_callCond cc n s⟩
  | push p => exact ⟨_, exec_push p s⟩
  | aluN8 op n => exact ⟨_, exec_aluN8 op n s⟩
  | rst y => exact ⟨_, exec_rst y s⟩
  | unused u => exact ⟨_, exec_unused u s⟩
  | shift op o => exact ⟨_, exec_shift op o s⟩
  | bit b o => exact ⟨_, exec_bit b o s⟩
  | res b o => exact ⟨_, exec_res b o s⟩
  | set b o => exact ⟨_, exec_set b o s⟩
  | _ => exact ⟨_, rfl⟩

end Sys2Proof.Machine
end

