-- ==== Sys2Proof/Laws/Decode.lean ====
section
/-! SUPPORT. What the decoder gives for each shape of opcode. -/

namespace Sys2Proof

/-- After the prefix, the extended instruction. -/
theorem decode_prefixed (op2 : Byte) (rest : List Byte) : decode (0xCB :: op2 :: rest) = .ok (extInstr op2, rest) := rfl

theorem decode_whole {op : Byte} {i : Instr} (rest : List Byte) (hp : op ≠ 0xCB) (h : stdSlot op = .whole i) :
    decode (op :: rest) = .ok (i, rest) := by
  have hp' : ¬ op = prefixByte := hp
  simp only [decode]
  simp only [if_neg hp', h]

theorem decode_byte {op : Byte} {f : Byte → Instr} (n : Byte) (rest : List Byte) (hp : op ≠ 0xCB)
    (h : stdSlot op = .byte f) : decode (op :: n :: rest) = .ok (f n, rest) := by
  have hp' : ¬ op = prefixByte := hp
  simp only [decode]
  simp only [if_neg hp', h]

theorem decode_word {op : Byte} {f : Word → Instr} (lo hi : Byte) (rest : List Byte) (hp : op ≠ 0xCB)
    (h : stdSlot op = .word f) : decode (op :: lo :: hi :: rest) = .ok (f (wordOf hi lo), rest) := by
  have hp' : ¬ op = prefixByte := hp
  simp only [decode]
  simp only [if_neg hp', h]

/-- An operand of two bytes, low byte first, is the word. -/
theorem decode_operandWord {op : Byte} {f : Word → Instr} (n : Word) (rest : List Byte) (hp : op ≠ 0xCB)
    (h : stdSlot op = .word f) : decode (op :: loByte n :: hiByte n :: rest) = .ok (f n, rest) := by
  rw [decode_word _ _ rest hp h, wordOf_hiByte_loByte]

/-- Every way a list of bytes can decode. -/
theorem decode_cases {bytes : List Byte} {i : Instr} {rest : List Byte} (h : decode bytes = .ok (i, rest)) :
    (bytes = [0xCB] ∧ i = .prefixCb ∧ rest = []) ∨
    (∃ op2, bytes = 0xCB :: op2 :: rest ∧ i = extInstr op2) ∨
    (∃ op, op ≠ 0xCB ∧ bytes = op :: rest ∧ stdSlot op = .whole i) ∨
    (∃ op n f, op ≠ 0xCB ∧ bytes = op :: n :: rest ∧ stdSlot op = .byte f ∧ i = f n) ∨
    (∃ op lo hi f, op ≠ 0xCB ∧ bytes = op :: lo :: hi :: rest ∧ stdSlot op = .word f ∧ i = f (wordOf hi lo)) := by
  unfold decode at h
  split at h
  · cases h
  · next op bs =>
    split at h
    · next hp =>
      have hp' : op = 0xCB := hp
      subst hp'
      split at h
      · cases h; exact .inl ⟨rfl, rfl, rfl⟩
      · cases h; exact .inr (.inl ⟨_, rfl, rfl⟩)
    · next hp =>
      have hp' : op ≠ 0xCB := hp
      split at h
      · next hs => cases h; exact .inr (.inr (.inl ⟨op, hp', rfl, hs⟩))
      · next hs => cases h; exact .inr (.inr (.inr (.inl ⟨op, _, _, hp', rfl, hs, rfl⟩)))
      · next hs => cases h; exact .inr (.inr (.inr (.inr ⟨op, _, _, _, hp', rfl, hs, rfl⟩)))
      · cases h

end Sys2Proof
end

