-- ==== Sys2Proof/Laws/Step.lean ====
section
/-! SUPPORT. Everything a step can do: the moves the iteration's slots are made of. A property that these moves keep is kept
by every step. -/

namespace Sys2Proof.Machine

/-! ## The moves of the PPU -/

/-- The moves a PPU tick is made of. -/
structure PpuClosed (P : State → Prop) : Prop where
  raw : ∀ s (a : Word) v, 0x8000#16 ≤ a → P s → P (s.rawWrite a v)
  frameZero : ∀ s, P s → P { s with frameSync := 0 }
  frameAdvance : ∀ s, P s → P { s with frameSync := (s.frameSync + 4) % 70224 }
  window : ∀ s n, P s → P { s with windowLine := n }
  bgLine : ∀ s ly (line : Line), line.length = 160 → P s → P { s with bgIndex := s.bgIndex.set ly line }
  backLine : ∀ s ly (line : Line), line.length = 160 ∨ line.length = (s.back.getD ly []).length → P s →
    P { s with back := s.back.set ly line }
  backBlank : ∀ s, P s → P { s with back := blankFrame }
  front : ∀ s, P s → P { s with front := s.back }

theorem drawColumn_length (bgLine : Line) (b1 b2 attr pal : Byte) (xo : Nat) (line : Line) (c : Nat) :
    (drawColumn bgLine b1 b2 attr pal xo line c).length = line.length := by
  unfold drawColumn
  dsimp only
  split_ifs <;> simp only [List.length_set]

theorem drawObject_length (s : State) (ly h : Nat) (bgLine line : Line) (n : Nat) :
    (s.drawObject ly h bgLine line n).length = line.length := by
  unfold State.drawObject
  refine List.foldlRecOn (motive := fun l : Line => l.length = line.length) (List.range 8) _ rfl ?_
  intro l hl c _
  rw [drawColumn_length, hl]

section

variable {P : State → Prop} (hP : PpuClosed P) {s : State}

include hP

theorem PpuClosed.setIf (i : Nat) (h : P s) : P (s.setIf i) := hP.raw _ _ _ (by decide) h

theorem PpuClosed.coincidenceRecheck (h : P s) : P s.coincidenceRecheck := hP.raw _ _ _ (by decide) h

theorem PpuClosed.lcdOff (h : P s) : P s.lcdOff :=
  hP.raw _ _ _ (by decide) (hP.window { s with frameSync := 0 } 0 (hP.frameZero s h))

theorem PpuClosed.renderBackground (ly : Nat) (h : P s) : P (s.renderBackground ly) := by
  unfold State.renderBackground
  generalize hp : (List.range 160).map (s.backgroundPixel ly) = pixels
  have hlen : pixels.length = 160 := by rw [← hp, List.length_map, List.length_range]
  have h1 := hP.bgLine s ly (pixels.map Pixel.index) (by rw [List.length_map, hlen]) h
  have h2 := hP.backLine _ ly (pixels.map Pixel.shade) (.inl (by rw [List.length_map, hlen])) h1
  exact hP.window _ _ h2

theorem PpuClosed.renderObjects (ly : Nat) (h : P s) : P (s.renderObjects ly) := by
  unfold State.renderObjects
  split
  · exact h
  · refine hP.backLine s ly _ (.inr ?_) h
    refine List.foldlRecOn (motive := fun l : Line => l.length = (s.back.getD ly []).length) _ _ rfl ?_
    intro l hl n _
    rw [drawObject_length, hl]

theorem PpuClosed.enterMode (old m : PpuMode) (ly : Nat) (h : P s) : P (s.enterMode old m ly) := by
  cases m
  · exact h
  · exact hP.front _ (hP.setIf 0 h)
  · unfold State.enterMode
    simp only
    split
    · exact hP.backBlank { s with windowLine := 0 } (hP.window s 0 h)
    · exact h
  · exact hP.renderObjects ly (hP.renderBackground ly h)

theorem PpuClosed.transition (old m : PpuMode) (ly : Nat) (h : P s) : P (s.transition old m ly) := by
  unfold State.transition
  refine hP.enterMode old m ly ?_
  unfold State.statInterruptCheck
  have h' := hP.raw s 0xFF41 ((s.rawRead 0xFF41 &&& ~~~0x03#8) ||| m.code) (by decide) h
  split
  · exact hP.setIf 1 h'
  · exact h'

end

theorem transition_frameSync (s : State) (old m : PpuMode) (ly : Nat) : (s.transition old m ly).frameSync = s.frameSync := by
  have h : ∀ u : State, (u.statInterruptCheck m).frameSync = u.frameSync := by
    intro u; unfold State.statInterruptCheck; split <;> rfl
  have h' : ∀ u : State, (u.enterMode old m ly).frameSync = u.frameSync := by
    intro u
    cases m
    · rfl
    · rfl
    · unfold State.enterMode; simp only; split <;> rfl
    · change (State.renderObjects (State.renderBackground u ly) ly).frameSync = u.frameSync
      unfold State.renderObjects; split <;> rfl
  unfold State.transition
  rw [h', h]
  rfl

section

variable {P : State → Prop} (hP : PpuClosed P) {s : State}

include hP

theorem PpuClosed.lcdOnTick (h : P s) : P s.lcdOnTick := by
  unfold State.lcdOnTick
  have h1 : P ((s.rawWrite 0xFF44 (BitVec.ofNat 8 (scanlineOf s.frameSync))).coincidenceCheck) :=
    hP.coincidenceRecheck (hP.raw _ _ _ (by decide) h)
  have h1f : ((s.rawWrite 0xFF44 (BitVec.ofNat 8 (scanlineOf s.frameSync))).coincidenceCheck).frameSync = s.frameSync := rfl
  simp only
  revert h1 h1f
  generalize (s.rawWrite 0xFF44 (BitVec.ofNat 8 (scanlineOf s.frameSync))).coincidenceCheck = u
  intro h1 h1f
  rw [show dotsPerFrame = 70224 from rfl, ← h1f]
  split
  · next hne =>
    have h2 := hP.frameAdvance _ (hP.transition (PpuMode.ofStat (u.rawRead 0xFF41))
      (modeOf (scanlineOf u.frameSync) (u.frameSync % dotsPerLine)) (scanlineOf u.frameSync) h1)
    rw [transition_frameSync] at h2
    exact h2
  · exact hP.frameAdvance _ h1

theorem PpuClosed.ppuTick (h : P s) : P s.ppuTick := by
  unfold State.ppuTick
  split
  · exact hP.lcdOnTick h
  · exact hP.lcdOff h

end

/-! ## The moves of a step -/

/-- The moves the slots of a step are made of. -/
structure SlotClosed (P : State → Prop) : Prop extends CpuClosed P, PpuClosed P where
  halt : ∀ s, s.run = .running → P s → P { s with run := .halted }
  stop : ∀ s, s.run = .running → P s → P { s with run := .stopped }
  panic : ∀ s info, s.run = .running → P s → P (s.raisePanic info)
  wake : ∀ s, s.run ≠ .panic → P s → P { s with run := .running }
  dmaTick : ∀ s, 0 < s.dmaCountdown → P s → P { s with dmaCountdown := s.dmaCountdown - 4 }
  joypad : ∀ s action dpad, dpadValid dpad = true → P s → P { s with joyAction := action, joyDpad := dpad }
  dropInput : ∀ s, P s → P { s with inputs := s.inputs.tail }

/-- The moves a step is made of. -/
structure StepClosed (P : State → Prop) : Prop extends SlotClosed P where
  master : ∀ s, P s → P { s with master := s.master + 4 }

/-- A step in which the host asks for no reset, or a property that the reset keeps. -/
def ResetClosed (P : State → Prop) (s : State) : Prop :=
  s.input.host.reset = true → ∀ u : State, u.inputs = s.inputs.tail → P u → P u.explicitReset

section

variable {P : State → Prop} (hP : SlotClosed P) {s : State}

include hP

theorem SlotClosed.exec (i : Instr) {t : State} (hr : s.run = .running) (h : P s) (he : exec i s = .next t) : P t := by
  have hQ : CpuClosed (fun u => P u ∧ u.run = .running) :=
    { raw := fun u a v ha hu => ⟨hP.toCpuClosed.raw u a v ha hu.1, hu.2⟩
      dmaSource := fun u v hu => ⟨hP.dmaSource u v hu.1, hu.2⟩
      dmaStart := fun u hu => ⟨hP.dmaStart u hu.1, hu.2⟩
      lengths := fun u v hu => ⟨hP.lengths u v hu.1, hu.2⟩
      reg := fun u r v hu => ⟨hP.reg u r v hu.1, by rw [setReg8_run]; exact hu.2⟩
      f := fun u v hv hu => ⟨hP.f u v hv hu.1, hu.2⟩
      sp := fun u v hu => ⟨hP.sp u v hu.1, hu.2⟩
      pc := fun u v hu => ⟨hP.pc u v hu.1, hu.2⟩
      ime := fun u v hu => ⟨hP.ime u v hu.1, hu.2⟩
      latch := fun u v hu => ⟨hP.latch u v hu.1, hu.2⟩
      cycles := fun u v hu => ⟨hP.cycles u v hu.1, hu.2⟩ }
  rcases exec_cases hQ i ⟨h, hr⟩ he with h' | ⟨-, rfl⟩ | ⟨-, rfl⟩ | ⟨u, -, rfl⟩
  · exact h'.1
  · exact hP.cycles _ _ (hP.halt s hr h)
  · exact hP.cycles _ _ (hP.stop s hr h)
  · exact hP.panic s _ hr h

theorem SlotClosed.fetchInstr (h : P s) : P s.fetchInstr.2 := by
  unfold State.fetchInstr
  simp only
  split
  · exact hP.fetch8 (hP.fetch8 h)
  · split
    · exact hP.fetch8 h
    · exact hP.fetch8 (hP.fetch8 h)
    · exact hP.fetch8 (hP.fetch8 (hP.fetch8 h))

omit hP in
theorem fetchInstr_run (s : State) : s.fetchInstr.2.run = s.run := by
  unfold State.fetchInstr
  simp only
  split
  · rfl
  · split <;> rfl

theorem SlotClosed.cpuTick {t : State} (h : P s) (he : s.cpuTick = .next t) : P t := by
  unfold State.cpuTick at he
  split at he
  · exact Host.Outcome.next.inj he ▸ h
  · split at he
    · exact Host.Outcome.next.inj he ▸ h
    · split at he
      · next hr =>
        refine hP.exec _ ?_ ?_ he
        · rw [fetchInstr_run]; exact hr
        · exact hP.fetchInstr (hP.latch s false h)
      · rw [← Host.Outcome.next.inj he]
        unfold State.idleTick
        split
        · exact hP.charge 4 h
        · exact h

theorem SlotClosed.takeInterrupt (i : Nat) (hr : s.run ≠ .panic) (h : P s) : P (s.takeInterrupt i) := by
  unfold State.takeInterrupt
  have h1 := hP.toCpuClosed.raw s 0xFF0F (s.rawRead 0xFF0F &&& ~~~(1#8 <<< i)) (by decide) h
  have h2 := hP.push16 s.pc (hP.ime _ false h1)
  refine hP.charge 20 (hP.wake { State.push16 _ s.pc with pc := interruptVector i } ?_ (hP.pc _ _ h2))
  rw [push16_run]
  exact hr

theorem SlotClosed.poll (h : P s) : P s.poll := by
  unfold State.poll
  split
  · exact h
  · next hr =>
    split
    · exact h
    · split
      · exact h
      · split
        · exact hP.takeInterrupt _ hr h
        · exact h

theorem SlotClosed.mmuTick (h : P s) : P s.mmuTick := by
  unfold State.mmuTick
  split
  · next hd => exact hP.dmaTick s hd h
  · exact h

theorem SlotClosed.rawWriteIfSome (a : Word) (v : Option Byte) (ha : 0x8000#16 ≤ a) (h : P s) :
    P (s.rawWriteIfSome a v) := by
  cases v
  · exact h
  · exact hP.toCpuClosed.raw _ _ _ ha h

theorem SlotClosed.setIfWhen (raised : Bool) (i : Nat) (h : P s) : P (s.setIfWhen raised i) := by
  cases raised
  · exact h
  · exact hP.toCpuClosed.raw _ _ _ (by decide) h

theorem SlotClosed.envTimerSlot (d : TimerDraw) (h : P s) : P (s.envTimerSlot d) :=
  hP.setIfWhen _ _ (hP.setIfWhen _ _ (hP.setIfWhen _ _
    (hP.rawWriteIfSome _ _ (by decide) (hP.rawWriteIfSome _ _ (by decide) h))))

omit hP in
theorem soundAddress_high (n : Fin 48) : 0x8000#16 ≤ 0xFF10 + BitVec.ofNat 16 n.val := by
  revert n
  decide

theorem SlotClosed.envApuSlot (d : ApuDraw) (h : P s) : P (s.envApuSlot d) := by
  refine hP.lengths _ _ ?_
  refine List.foldlRecOn d.sound State.writeSound h ?_
  intro u hu w _
  exact hP.toCpuClosed.raw _ _ _ (soundAddress_high w.1) hu

theorem SlotClosed.afterCpu (apu : ApuDraw) (h : P s) :
    ∃ u, P u ∧ s.afterCpu apu = { u with master := u.master + 4 } :=
  ⟨_, hP.poll (hP.envApuSlot apu (hP.toPpuClosed.ppuTick (hP.mmuTick h))), rfl⟩

theorem SlotClosed.beforeCpu {t : State} (hreset : ResetClosed P s) (h : P s) (he : s.beforeCpu = .next t) : P t := by
  unfold State.beforeCpu State.hostSlot State.hostJoypad State.hostReset at he
  have h1 : P (if s.input.host.reset = true then s.dropInput.explicitReset else s.dropInput) := by
    split
    · next hr => exact hreset hr _ rfl (hP.dropInput s h)
    · exact hP.dropInput s h
  revert he h1
  generalize (if s.input.host.reset = true then s.dropInput.explicitReset else s.dropInput) = u
  intro he h1
  split at he
  · exact Host.Outcome.next.inj he ▸ hP.envTimerSlot _ h1
  · split at he
    · next hd => exact Host.Outcome.next.inj he ▸ hP.envTimerSlot _ (hP.joypad _ _ _ hd h1)
    · exact absurd he (by simp [Result.andThen])

end

/-- A step that answers a next state: the parts it is made of. -/
theorem step_parts {s t : State} (he : step s = .next t) :
    ∃ u v, s.beforeCpu = .next u ∧ u.cpuTick = .next v ∧ t = v.afterCpu s.input.apu := by
  unfold step State.iteration at he
  cases hb : s.beforeCpu with
  | next u =>
    rw [hb] at he
    cases hc : u.cpuTick with
    | next v =>
      refine ⟨u, v, rfl, hc, ?_⟩
      simp only [Result.andThen, hc] at he
      exact (Host.Outcome.next.inj he).symm
    | fault x => simp [Result.andThen, hc] at he
    | refused x => simp [Result.andThen, hc] at he
  | fault x => rw [hb] at he; simp [Result.andThen] at he
  | refused x => rw [hb] at he; simp [Result.andThen] at he

/-- A property that the moves of a step keep, and the reset where the host asks for one, is kept by every step. -/
theorem step_closed {P : State → Prop} (hP : StepClosed P) {s t : State} (hreset : ResetClosed P s) (h : P s)
    (he : step s = .next t) : P t := by
  obtain ⟨u, v, hb, hc, rfl⟩ := step_parts he
  obtain ⟨w, hw, e⟩ := hP.afterCpu s.input.apu (hP.cpuTick (hP.beforeCpu hreset h hb) hc)
  exact e ▸ hP.master w hw

end Sys2Proof.Machine
end

