-- ==== Sys2Proof/Laws/Stores.lean ====
section
/-! SUPPORT. What a store can reach: every byte of the array that a CPU write leaves alone, and when a state is what one or
two CPU writes make of another. -/

namespace Sys2Proof.Machine

/-- The Boolean test of contention is the condition of R104. -/
theorem blocked_iff (s : State) (a : Word) : s.blocked a = true ↔ s.contended a := by
  unfold State.blocked State.contended State.dmaActive State.inDmaWindow
  simp only [Bool.and_eq_true, Bool.or_eq_true, decide_eq_true_eq, BitVec.le_def, toNat_wordOf]
  constructor
  · rintro ⟨h, h1 | h1⟩ <;> refine ⟨h, ?_⟩ <;> simp at h1 <;> omega
  · rintro ⟨h, h1 | h1⟩ <;> refine ⟨h, ?_⟩ <;> simp <;> omega

theorem blocked_eq_false_iff (s : State) (a : Word) : s.blocked a = false ↔ ¬ s.contended a := by
  rw [← blocked_iff]; simp

/-- The first `n` bytes of the copy. -/
def State.dmaCopied (s : State) (page : Byte) (n : Nat) : State :=
  (List.range n).foldl (State.dmaCopyByte page) s

theorem dmaCopied_succ (s : State) (page : Byte) (n : Nat) :
    s.dmaCopied page (n + 1) = (s.dmaCopied page n).dmaCopyByte page n := by
  simp [State.dmaCopied, List.range_succ, List.foldl_append]

theorem startDma_eq (s : State) (page : Byte) :
    s.startDma page = { ({ s with dmaSource := page } : State).dmaCopied page 0xA0 with dmaCountdown := 640 } := rfl

theorem toNat_dmaTarget {i : Nat} (h : i < 0xA0) : (0xFE00 + BitVec.ofNat 16 i : Word).toNat = 0xFE00 + i := by
  have h1 : (0xFE00 : Word).toNat = 0xFE00 := rfl
  rw [BitVec.toNat_add, h1, BitVec.toNat_ofNat]; omega

theorem rawRead_countdown (s : State) (n : Int) (b : Word) :
    ({ s with dmaCountdown := n } : State).rawRead b = s.rawRead b := rfl

theorem rawRead_source (s : State) (page : Byte) (b : Word) :
    ({ s with dmaSource := page } : State).rawRead b = s.rawRead b := rfl

/-- The copy changes OAM alone. -/
theorem rawRead_dmaCopied_other (s : State) (page : Byte) {n : Nat} (hn : n ≤ 0xA0) (b : Word)
    (hb : ¬ (0xFE00 ≤ b.toNat ∧ b.toNat < 0xFE00 + n)) : (s.dmaCopied page n).rawRead b = s.rawRead b := by
  induction n with
  | zero => rfl
  | succ n ih =>
    rw [dmaCopied_succ]
    unfold State.dmaCopyByte
    rw [rawRead_rawWrite_other, ih (by omega) (by omega)]
    intro e
    have := congrArg BitVec.toNat e
    rw [toNat_dmaTarget (by omega)] at this
    omega

/-- The bytes a CPU write does not reach read as before. -/
theorem memWrite_frame (s : State) (a : Word) (v : Byte) (b : Word) (h : s.writeReaches a b = false) :
    (s.memWrite a v).rawRead b = s.rawRead b := by
  have ne : ∀ {c : Word}, (b == c) = false → b ≠ c := fun h e => by simp [e] at h
  unfold State.writeReaches at h
  unfold State.memWrite
  by_cases h0 : s.blocked a = true
  · rw [if_pos h0]
  rw [if_neg h0] at h ⊢
  by_cases h46 : a = 0xFF46
  · subst h46
    rw [if_pos rfl] at h
    rw [if_neg (by decide), if_neg (by decide), if_pos rfl, startDma_eq]
    simp only [Bool.or_eq_false_iff] at h
    have hoam : ¬ (0xFE00 ≤ b.toNat ∧ b.toNat < 0xFE00 + 0xA0) := by
      intro hb
      have h2 := h.2
      simp [BitVec.le_def] at h2
      omega
    rw [rawRead_countdown, rawRead_dmaCopied_other _ v (by omega) b hoam, rawRead_source,
      rawRead_rawWrite_other s v (ne h.1)]
  rw [if_neg h46] at h
  by_cases h45 : a = 0xFF45
  · subst h45
    rw [if_pos rfl] at h
    simp only [Bool.or_eq_false_iff] at h
    rw [if_neg (by decide), if_neg (by decide), if_neg (by decide), if_neg (by decide), if_pos rfl]
    unfold State.coincidenceRecheck
    rw [rawRead_rawWrite_other _ _ (ne h.2), rawRead_rawWrite_other _ _ (ne h.1)]
  rw [if_neg h45] at h
  by_cases he : 0xE000#16 ≤ a ∧ a ≤ 0xFDFF#16
  · rw [if_pos (by simpa using he)] at h
    have hne : ∀ c : Word, 0xFE00#16 ≤ c → a ≠ c := by
      rintro c hc rfl
      have := he.2
      simp only [BitVec.le_def] at hc this
      bv_omega
    rw [if_neg (hne _ (by decide)), if_neg (hne _ (by decide)), if_neg (hne _ (by decide)), if_neg (hne _ (by decide)),
      if_neg (hne _ (by decide)), if_neg, if_pos he]
    · exact rawRead_rawWrite_other _ _ (ne h)
    · rintro (e | e | e | e)
      all_goals exact hne _ (by decide) e
  rw [if_neg (by simpa using he)] at h
  by_cases hu : 0xFEA0#16 ≤ a ∧ a ≤ 0xFEFF#16
  · have hne : ∀ c : Word, 0xFF00#16 ≤ c → a ≠ c := by
      rintro c hc rfl
      have := hu.2
      simp only [BitVec.le_def] at hc this
      bv_omega
    rw [if_neg (hne _ (by decide)), if_neg (hne _ (by decide)), if_neg (hne _ (by decide)), if_neg (hne _ (by decide)),
      if_neg (hne _ (by decide)), if_neg, if_neg he, if_pos hu]
    rintro (e | e | e | e)
    all_goals exact hne _ (by decide) e
  rw [if_neg (by simpa using hu)] at h
  by_cases hr : a ≤ 0x7FFF#16
  · have := memWrite_rom s v hr
    unfold State.memWrite at this
    rw [if_neg h0] at this
    rw [this]
  rw [if_neg hr] at h
  have hb := ne h
  split_ifs
  · subst a; exact rawRead_rawWrite_other _ _ hb
  · subst a; exact rawRead_rawWrite_other _ _ hb
  · subst a; exact rawRead_rawWrite_other _ _ hb
  · exact rawRead_rawWrite_other _ _ hb
  · exact rawRead_rawWrite_other _ _ hb

/-- Only a write of the DMA register changes the DMA registers. -/
theorem memWrite_dma (s : State) {a : Word} (v : Byte) (h : a ≠ 0xFF46) :
    (s.memWrite a v).dmaSource = s.dmaSource ∧ (s.memWrite a v).dmaCountdown = s.dmaCountdown := by
  unfold State.memWrite
  simp only [h, if_false]
  split_ifs <;> exact ⟨rfl, rfl⟩

theorem dmaCopied_eq (s : State) (page : Byte) (n : Nat) :
    s.dmaCopied page n = { s with mem := (s.dmaCopied page n).mem } := by
  induction n with
  | zero => rfl
  | succ n ih => rw [dmaCopied_succ, ih]; rfl

theorem dmaCopied_lengths (s : State) (page : Byte) (n : Nat) : (s.dmaCopied page n).lengthTimer = s.lengthTimer := by
  induction n with
  | zero => rfl
  | succ n ih => rw [dmaCopied_succ]; exact ih

theorem startDma_lengths (s : State) (page : Byte) : (s.startDma page).lengthTimer = s.lengthTimer := by
  rw [startDma_eq]
  generalize 0xA0 = n
  exact dmaCopied_lengths { s with dmaSource := page } page n

/-- Only a write of a length register reloads a length timer. -/
theorem memWrite_lengths (s : State) {a : Word} (v : Byte) (h : isLengthRegister a = false) :
    (s.memWrite a v).lengthTimer = s.lengthTimer := by
  have hn : ¬ (a = 0xFF11 ∨ a = 0xFF16 ∨ a = 0xFF1B ∨ a = 0xFF20) := by
    rintro (rfl | rfl | rfl | rfl) <;> exact absurd h (by decide)
  by_cases h46 : a = 0xFF46
  · subst h46
    unfold State.memWrite
    split
    · rfl
    · rw [if_neg (by decide), if_neg (by decide), if_pos rfl, startDma_lengths]
      rfl
  · unfold State.memWrite
    simp only [h46, hn, if_false]
    split_ifs <;> rfl

theorem contended_congr {s t : State} (h1 : t.dmaSource = s.dmaSource) (h2 : t.dmaCountdown = s.dmaCountdown) (a : Word) :
    t.contended a ↔ s.contended a := by
  unfold State.contended
  rw [h1, h2]

theorem sameButBus_withBus (r s : State) : State.SameButBus r (r.withBus s) := rfl

/-- One CPU write in `s`, with the registers and the rest of `r` beside it. -/
theorem wroteOnly_withBus {s r t : State} {a : Word} {v : Byte} (h : t = r.withBus (s.memWrite a v)) :
    s.WroteOnly a v r t := by
  subst h
  exact
    { written := ⟨rfl, rfl, rfl, rfl⟩
      rest := sameButBus_withBus _ _
      bytes := fun b hb => memWrite_frame s a v b hb
      dma := fun ha => memWrite_dma s v ha
      lengths := fun ha => memWrite_lengths s v ha }

/-- Two CPU writes in `s`, with the registers and the rest of `r` beside them. -/
theorem wroteBoth_withBus {s r t : State} {a b : Word} {v w : Byte}
    (h : t = r.withBus ((s.memWrite a v).memWrite b w)) : s.WroteBoth a v b w r t := by
  subst h
  exact
    { written := ⟨rfl, rfl, rfl, rfl⟩
      rest := sameButBus_withBus _ _
      bytes := fun x h1 h2 => (memWrite_frame _ b w x h2).trans (memWrite_frame s a v x h1)
      dma := fun h1 h2 =>
        ⟨(memWrite_dma _ w h2).1.trans (memWrite_dma s v h1).1, (memWrite_dma _ w h2).2.trans (memWrite_dma s v h1).2⟩
      lengths := fun h1 h2 => (memWrite_lengths _ w h2).trans (memWrite_lengths s v h1) }

theorem withBus_self (s : State) : s.withBus s = s := rfl

theorem memWrite_withBus_self (s : State) (a : Word) (v : Byte) : s.memWrite a v = s.withBus (s.memWrite a v) :=
  memWrite_eq s a v

/-- A push is two CPU writes in the state itself, beside SP two lower. -/
theorem push16_withBus (s : State) (v : Word) :
    s.push16 v =
      ({ s with sp := s.sp - 2 } : State).withBus
        ((s.memWrite (s.sp - 1) (hiByte v)).memWrite (s.sp - 2) (loByte v)) := by
  generalize hr : ({ s with sp := s.sp - 2 } : State) = r
  have e : r = r.withBus s := by rw [← hr]; rfl
  have hs : SameInputs r s := by rw [← hr]; exact ⟨rfl, rfl, rfl⟩
  have h1 := memWrite_withBus hs (s.sp - 1) (hiByte v)
  have h2 := memWrite_withBus (r := r) (s := s.memWrite (s.sp - 1) (hiByte v))
    ⟨by rw [memWrite_joyAction]; exact hs.1, by rw [memWrite_joyDpad]; exact hs.2.1, by rw [memWrite_config]; exact hs.2.2⟩
    (s.sp - 2) (loByte v)
  unfold State.push16
  rw [hr, ← h2, ← h1, ← e]

/-- A push does not look at IME. -/
theorem push16_withIme (s : State) (v : Word) (b : Bool) :
    ({ s with ime := b } : State).push16 v = { s.push16 v with ime := b } := by
  generalize hr : ({ s with ime := b } : State) = r
  have e : r = r.withBus s := by rw [← hr]; rfl
  have hs : SameInputs ({ r with sp := s.sp - 2 } : State) s := by rw [← hr]; exact ⟨rfl, rfl, rfl⟩
  have hsp : r.sp = s.sp := by rw [← hr]
  rw [push16_withBus, push16_withBus, hsp]
  have h1 := memWrite_withBus (r := r) (s := s) (by rw [← hr]; exact ⟨rfl, rfl, rfl⟩) (s.sp - 1) (hiByte v)
  rw [← e] at h1
  have h2 := memWrite_withBus (r := r) (s := s.memWrite (s.sp - 1) (hiByte v))
    ⟨by rw [memWrite_joyAction, ← hr], by rw [memWrite_joyDpad, ← hr], by rw [memWrite_config, ← hr]⟩
    (s.sp - 2) (loByte v)
  rw [h1, h2, ← hr]
  rfl

/-- A 16-bit store is two CPU writes. -/
theorem memWrite16_withBus (s : State) (a v : Word) :
    s.memWrite16 a v = s.withBus ((s.memWrite a (loByte v)).memWrite (a + 1) (hiByte v)) := by
  unfold State.memWrite16
  rw [memWrite_eq (s.memWrite a (loByte v)), memWrite_eq s]
  rfl

end Sys2Proof.Machine
end

