-- ==== Sys2Proof/Laws/Queue.lean ====
section
/-! SUPPORT. The queue of what the outside will do: an iteration looks at its head alone, so whatever stands behind the
head is there after it and changes nothing else (R431). -/

namespace Sys2Proof.Machine

/-- An answer with another queue in its next state. -/
def Result.queued (r : Result) (q : List Input) : Result := r.andThen (fun t => .next (t.queued q))

variable (s : State) (q : List Input)

/-! ## What reads no queue -/

theorem reg8_queued (r : Reg8) : (s.queued q).reg8 r = s.reg8 r := by cases r <;> rfl

theorem reg16_queued (p : Reg16) : (s.queued q).reg16 p = s.reg16 p := by cases p <;> rfl

theorem stackReg_queued (p : StackReg) : (s.queued q).stackReg p = s.stackReg p := by cases p <;> rfl

theorem operand8_queued (o : Operand8) : (s.queued q).operand8 o = s.operand8 o := by
  cases o with
  | reg r => exact reg8_queued s q r
  | atHl => rfl

/-! ## What writes no queue -/

theorem setReg8_queued (r : Reg8) (v : Byte) : (s.queued q).setReg8 r v = (s.setReg8 r v).queued q := by cases r <;> rfl

theorem setReg16_queued (p : Reg16) (v : Word) : (s.queued q).setReg16 p v = (s.setReg16 p v).queued q := by
  cases p <;> rfl

theorem setStackReg_queued (p : StackReg) (v : Word) :
    (s.queued q).setStackReg p v = (s.setStackReg p v).queued q := by
  cases p <;> rfl

theorem setFlags_queued (fl : Flags) : (s.queued q).setFlags fl = (s.setFlags fl).queued q := rfl

theorem setAccumulator_queued (r : Byte × Flags) : (s.queued q).setAccumulator r = (s.setAccumulator r).queued q := rfl

theorem flags_queued : (s.queued q).flags = s.flags := rfl

theorem hl_queued : (s.queued q).hl = s.hl := rfl

theorem a_queued : (s.queued q).a = s.a := rfl

theorem memRead_queued (a : Word) : (s.queued q).memRead a = s.memRead a := rfl

theorem memRegAfter_queued (p : MemReg) : (s.queued q).memRegAfter p = (s.memRegAfter p).queued q := by cases p <;> rfl

theorem memRegAddr_queued (p : MemReg) : (s.queued q).memRegAddr p = s.memRegAddr p := by cases p <;> rfl

theorem memWrite_queued (a : Word) (v : Byte) : (s.queued q).memWrite a v = (s.memWrite a v).queued q := by
  have h := memWrite_withBus (r := s.queued q) (s := s) ⟨rfl, rfl, rfl⟩ a v
  refine (show (s.queued q).memWrite a v = ((s.queued q).withBus s).memWrite a v from rfl).trans (h.trans ?_)
  rw [memWrite_withBus_self s a v]; rfl

theorem push16_queued (v : Word) : (s.queued q).push16 v = (s.push16 v).queued q := by
  unfold State.push16
  exact (congrArg (State.memWrite · _ _) (memWrite_queued { s with sp := s.sp - 2 } q _ _)).trans
    (memWrite_queued _ q _ _)

theorem setOperand8_queued (o : Operand8) (v : Byte) : (s.queued q).setOperand8 o v = (s.setOperand8 o v).queued q := by
  cases o with
  | reg r => cases r <;> rfl
  | atHl => exact memWrite_queued s q _ v

theorem branchIf_queued (cc : Cond) (n : Nat) {b : State → State} (hb : b (s.queued q) = (b s).queued q) :
    branchIf cc n b (s.queued q) = (branchIf cc n b s).queued q := by
  unfold branchIf
  rw [hb, apply_ite (fun t : State => t.queued q)]; rfl

theorem complete_queued (n : Nat) {t u : State} (h : u = t.queued q) : complete n u = Result.queued (complete n t) q := by
  subst h; rfl

theorem callTo_queued (t : Word) : callTo t (s.queued q) = (callTo t s).queued q :=
  congrArg (jumpTo t) (push16_queued s q s.pc)

/-! ## An instruction -/

theorem extOperation_queued (op : Byte) : extOperation op (s.queued q) = (extOperation op s).queued q := by
  unfold extOperation
  generalize fieldX op = x
  fin_cases x
  · simp only [shiftOperand, operand8_queued, flags_queued, setOperand8_queued, setFlags_queued]
  · simp only [testBit, operand8_queued, flags_queued, setFlags_queued]
  · simp only [resOperand, operand8_queued, setOperand8_queued]
  · simp only [setOperand, operand8_queued, setOperand8_queued]

/-- An instruction neither reads nor writes the queue. -/
theorem exec_queued (i : Instr) : exec i (s.queued q) = Result.queued (exec i s) q := by
  induction i using Instr.byRow with
  | ldPairN16 p n => rw [exec_ldPairN16, exec_ldPairN16]; exact complete_queued q _ (setReg16_queued s q p n)
  | ldAtMemA p =>
    rw [exec_ldAtMemA, exec_ldAtMemA]
    refine complete_queued q _ ?_
    unfold ldAtMemA ldATo
    rw [memRegAddr_queued, a_queued, memWrite_queued, memRegAfter_queued]
  | inc16 p =>
    rw [exec_inc16, exec_inc16]
    refine complete_queued q _ ?_
    unfold incPair
    rw [reg16_queued, setReg16_queued]
  | inc8 o =>
    rw [exec_inc8, exec_inc8]
    refine complete_queued q _ ?_
    unfold incOperand
    simp only [operand8_queued, flags_queued, setFlags_queued, setOperand8_queued]
  | dec8 o =>
    rw [exec_dec8, exec_dec8]
    refine complete_queued q _ ?_
    unfold decOperand
    simp only [operand8_queued, flags_queued, setFlags_queued, setOperand8_queued]
  | ldRegN8 r n => rw [exec_ldRegN8, exec_ldRegN8]; exact complete_queued q _ (setReg8_queued s q r n)
  | ldAtN16Sp n =>
    rw [exec_ldAtN16Sp, exec_ldAtN16Sp]
    refine complete_queued q _ ?_
    unfold State.memWrite16
    rw [memWrite_queued, memWrite_queued]
    rfl
  | addHl p =>
    rw [exec_addHl, exec_addHl]
    refine complete_queued q _ ?_
    unfold addHlPair
    rw [reg16_queued]
    rfl
  | ldAAtMem p =>
    rw [exec_ldAAtMem, exec_ldAAtMem]
    refine complete_queued q _ ?_
    unfold ldAAtMem
    rw [memRegAddr_queued]
    exact memRegAfter_queued (ldAFrom _ s) q p
  | dec16 p =>
    rw [exec_dec16, exec_dec16]
    refine complete_queued q _ ?_
    unfold decPair
    rw [reg16_queued, setReg16_queued]
  | jrCond cc e => rw [exec_jrCond, exec_jrCond]; exact complete_queued q _ (branchIf_queued s q _ _ rfl)
  | ldAtHlN8 n => rw [exec_ldAtHlN8, exec_ldAtHlN8]; exact complete_queued q _ (memWrite_queued s q _ _)
  | ldRegReg dst src =>
    rw [exec_ldRegReg, exec_ldRegReg]
    refine complete_queued q _ ?_
    unfold ldRegReg
    rw [reg8_queued, setReg8_queued]
  | ldRegAtHl r => rw [exec_ldRegAtHl, exec_ldRegAtHl]; exact complete_queued q _ (setReg8_queued s q r _)
  | ldAtHlReg r =>
    rw [exec_ldAtHlReg, exec_ldAtHlReg]
    refine complete_queued q _ ?_
    unfold ldAtHlReg
    rw [reg8_queued, memWrite_queued]
    rfl
  | alu op o =>
    rw [exec_alu, exec_alu]
    refine complete_queued q _ ?_
    unfold aluOperand
    rw [operand8_queued]
    rfl
  | retCond cc => rw [exec_retCond, exec_retCond]; exact complete_queued q _ (branchIf_queued s q _ _ rfl)
  | pop p => rw [exec_pop, exec_pop]; exact complete_queued q _ (setStackReg_queued s.dropTop q p _)
  | jpCond cc n => rw [exec_jpCond, exec_jpCond]; exact complete_queued q _ (branchIf_queued s q _ _ rfl)
  | callCond cc n =>
    rw [exec_callCond, exec_callCond]
    exact complete_queued q _ (branchIf_queued s q _ _ (callTo_queued s q n))
  | push p =>
    rw [exec_push, exec_push]
    refine complete_queued q _ ?_
    unfold pushPair
    rw [stackReg_queued, push16_queued]
  | aluN8 op n => rw [exec_aluN8, exec_aluN8]; rfl
  | rst y => rw [exec_rst, exec_rst]; exact complete_queued q _ (callTo_queued s q _)
  | prefixCb => rw [exec_prefixCb, exec_prefixCb]; exact complete_queued q _ (extOperation_queued s.fetch8.2 q _)
  | callN16 n => rw [exec_callN16, exec_callN16]; exact complete_queued q _ (callTo_queued s q n)
  | unused u => rw [exec_unused, exec_unused]; rfl
  | ldhAtA8A a => rw [exec_ldhAtA8A, exec_ldhAtA8A]; exact complete_queued q _ (memWrite_queued s q _ _)
  | ldAtCA => rw [exec_ldAtCA, exec_ldAtCA]; exact complete_queued q _ (memWrite_queued s q _ _)
  | ldAtN16A n => rw [exec_ldAtN16A, exec_ldAtN16A]; exact complete_queued q _ (memWrite_queued s q _ _)
  | shift op o =>
    rw [exec_shift, exec_shift]
    refine complete_queued q _ ?_
    unfold shiftOperand
    simp only [operand8_queued, flags_queued, setOperand8_queued, setFlags_queued]
  | bit b o =>
    rw [exec_bit, exec_bit]
    refine complete_queued q _ ?_
    unfold testBit
    rw [operand8_queued]
    rfl
  | res b o =>
    rw [exec_res, exec_res]
    refine complete_queued q _ ?_
    unfold resOperand
    rw [operand8_queued, setOperand8_queued]
  | set b o =>
    rw [exec_set, exec_set]
    refine complete_queued q _ ?_
    unfold setOperand
    rw [operand8_queued, setOperand8_queued]
  | _ => rfl

/-! ## The slots -/

theorem fetchInstr_queued : (s.queued q).fetchInstr = (s.fetchInstr.1, s.fetchInstr.2.queued q) := by
  unfold State.fetchInstr
  simp only [show (s.queued q).fetch8 = (s.fetch8.1, s.fetch8.2.queued q) from rfl]
  split
  · rfl
  · split <;> rfl

theorem cpuTick_queued : (s.queued q).cpuTick = Result.queued s.cpuTick q := by
  have hc : (s.queued q).executeOne = Result.queued s.executeOne q := by
    unfold State.executeOne
    have hf : ({ s.queued q with eiLatch := false } : State).fetchInstr =
        (({ s with eiLatch := false } : State).fetchInstr.1, ({ s with eiLatch := false } : State).fetchInstr.2.queued q) :=
      fetchInstr_queued { s with eiLatch := false } q
    simp only [hf]
    exact exec_queued _ q _
  have hi : (s.queued q).idleTick = s.idleTick.queued q := by
    unfold State.idleTick
    rw [apply_ite (fun t : State => t.queued q)]; rfl
  unfold State.cpuTick
  rw [hc, hi]
  simp only [apply_ite (fun r : Result => Result.queued r q)]
  rfl

theorem insertDrawn_queued (n : Nat) (l : List Nat) : (s.queued q).insertDrawn n l = s.insertDrawn n l := by
  induction l with
  | nil => rfl
  | cons m l ih => unfold State.insertDrawn; rw [ih]; rfl

theorem renderObjects_queued (ly : Nat) : (s.queued q).renderObjects ly = (s.renderObjects ly).queued q := by
  have hd : (s.queued q).drawOrder = s.drawOrder := by
    funext vis; unfold State.drawOrder; congr 1; funext n l; exact insertDrawn_queued s q n l
  unfold State.renderObjects
  rw [apply_ite (fun t : State => t.queued q), hd]; rfl

theorem transition_queued (old m : PpuMode) (ly : Nat) :
    (s.queued q).transition old m ly = (s.transition old m ly).queued q := by
  unfold State.transition
  have h1 : ∀ u : State, (u.queued q).statInterruptCheck m = (u.statInterruptCheck m).queued q := by
    intro u; unfold State.statInterruptCheck; rw [apply_ite (fun t : State => t.queued q)]; rfl
  have h2 : ∀ u : State, (u.queued q).enterMode old m ly = (u.enterMode old m ly).queued q := by
    intro u
    cases m
    · rfl
    · rfl
    · unfold State.enterMode; simp only; rw [apply_ite (fun t : State => t.queued q)]; rfl
    · change ((u.renderBackground ly).queued q).renderObjects ly = ((u.renderBackground ly).renderObjects ly).queued q
      exact renderObjects_queued _ q ly
  refine Eq.trans ?_ (h2 _)
  exact congrArg (State.enterMode · old m ly) (h1 (s.rawWrite 0xFF41 _))

theorem ppuTick_queued : (s.queued q).ppuTick = s.ppuTick.queued q := by
  unfold State.ppuTick
  rw [apply_ite (fun t : State => t.queued q)]
  have : (s.queued q).lcdOnTick = s.lcdOnTick.queued q := by
    have key : ∀ (u : State) (m old : PpuMode) (ly n : Nat),
        ({ (if m ≠ old then (u.queued q).transition old m ly else u.queued q) with frameSync := n } : State) =
          ({ (if m ≠ old then u.transition old m ly else u) with frameSync := n } : State).queued q := by
      intro u m old ly n
      by_cases h : m ≠ old
      · rw [if_pos h, if_pos h, transition_queued]; rfl
      · rw [if_neg h, if_neg h]; rfl
    exact key ((s.rawWrite 0xFF44 (BitVec.ofNat 8 (scanlineOf s.frameSync))).coincidenceCheck) _ _ _ _
  rw [this]; rfl

theorem takeInterrupt_queued (i : Nat) : (s.queued q).takeInterrupt i = (s.takeInterrupt i).queued q := by
  have key : ∀ u v : State, u = v.queued q →
      ({ u with pc := interruptVector i, run := .running } : State).charge 20 =
        (({ v with pc := interruptVector i, run := .running } : State).charge 20).queued q := by
    rintro _ v rfl
    rfl
  exact key _ _ (push16_queued { s.rawWrite 0xFF0F (s.rawRead 0xFF0F &&& ~~~(1#8 <<< i)) with ime := false } q s.pc)

theorem poll_queued : (s.queued q).poll = s.poll.queued q := by
  unfold State.poll
  change (if s.run = .panic then _ else if s.eiLatch = true then _ else if (!s.ime) = true then _ else
    match firstRequest (s.rawRead 0xFFFF) (s.rawRead 0xFF0F) with
    | some i => (s.queued q).takeInterrupt i
    | none => s.queued q) = _
  cases firstRequest (s.rawRead 0xFFFF) (s.rawRead 0xFF0F) with
  | none => split_ifs <;> rfl
  | some i =>
    simp only [takeInterrupt_queued, apply_ite (fun t : State => t.queued q)]

theorem envApuSlot_queued (d : ApuDraw) : (s.queued q).envApuSlot d = (s.envApuSlot d).queued q := by
  unfold State.envApuSlot
  have h : ∀ (l : List (Fin 48 × Byte)) (u : State),
      l.foldl State.writeSound (u.queued q) = (l.foldl State.writeSound u).queued q := by
    intro l
    induction l with
    | nil => intro u; rfl
    | cons w l ih => intro u; exact ih (u.writeSound w)
  simp only
  rw [h]
  rfl

theorem afterCpu_queued (d : ApuDraw) : (s.queued q).afterCpu d = (s.afterCpu d).queued q := by
  unfold State.afterCpu
  have hm : (s.queued q).mmuTick = s.mmuTick.queued q := by
    unfold State.mmuTick; rw [apply_ite (fun t : State => t.queued q)]; rfl
  rw [hm, ppuTick_queued, envApuSlot_queued, poll_queued]; rfl

theorem envTimerSlot_queued (d : TimerDraw) : (s.queued q).envTimerSlot d = (s.envTimerSlot d).queued q := by
  have hw : ∀ (u : State) a v, (u.queued q).rawWriteIfSome a v = (u.rawWriteIfSome a v).queued q := by
    intro u a v; cases v <;> rfl
  have hi : ∀ (u : State) b i, (u.queued q).setIfWhen b i = (u.setIfWhen b i).queued q := by
    intro u b i; cases b <;> rfl
  simp only [State.envTimerSlot, hw, hi]

theorem hostSlot_queued (h : HostInput) : (s.queued q).hostSlot h = Result.queued (s.hostSlot h) q := by
  have hr : (s.queued q).hostReset h.reset = (s.hostReset h.reset).queued q := by
    cases h.reset <;> rfl
  unfold State.hostSlot
  rw [hr]
  unfold State.hostJoypad
  cases h.joypad with
  | none => rfl
  | some v => simp only; split <;> rfl

theorem andThen_queued {r r' : Result} {k k' : State → Result} (hr : r' = Result.queued r q)
    (hk : ∀ t, k' (t.queued q) = Result.queued (k t) q) : r'.andThen k' = Result.queued (r.andThen k) q := by
  subst hr
  cases r with
  | next t => exact hk t
  | fault x => rfl
  | refused x => rfl

theorem beforeCpu_queued (x : Input) : (s.queued (x :: q)).beforeCpu = Result.queued (s.queued [x]).beforeCpu q := by
  change Result.andThen ((s.queued q).hostSlot x.host) (fun t => .next (t.envTimerSlot x.timer)) =
    Result.queued (Result.andThen ((s.queued []).hostSlot x.host) (fun t => .next (t.envTimerSlot x.timer))) q
  exact andThen_queued q (hostSlot_queued (s.queued []) q x.host)
    (fun t => congrArg Host.Outcome.next (envTimerSlot_queued t q x.timer))

/-- A step takes the head of the queue and leaves the rest. -/
theorem step_queued (x : Input) : step (s.queued (x :: q)) = Result.queued (step (s.queued [x])) q := by
  change Result.andThen (Result.andThen (s.queued (x :: q)).beforeCpu State.cpuTick) (fun t => .next (t.afterCpu x.apu)) =
    Result.queued
      (Result.andThen (Result.andThen (s.queued [x]).beforeCpu State.cpuTick) (fun t => .next (t.afterCpu x.apu))) q
  exact andThen_queued q (andThen_queued q (beforeCpu_queued s q x) (fun t => cpuTick_queued t q))
    (fun t => congrArg Host.Outcome.next (afterCpu_queued t q x.apu))

/-- An empty queue is an idle outside. -/
theorem step_empty : step (s.queued []) = step (s.queued [{}]) := rfl

end Sys2Proof.Machine
end

