-- ==== Sys2Proof/Laws/Driver.lean ====
section
/-! SUPPORT. The driver: iterations compose, what one frame can end in, and what a run does with its first frame. -/

namespace Sys2Proof.Machine

/-! ## Iterations -/

theorem iterate_zero (s : State) : iterate 0 s = .next s := rfl

theorem iterate_succ (n : Nat) (s : State) : iterate (n + 1) s = Result.andThen (step s) (iterate n) := rfl

theorem iterateUnder_zero (outside : Outside) (s : State) : iterateUnder outside 0 s = .next s := rfl

theorem iterateUnder_succ (outside : Outside) (n : Nat) (s : State) :
    iterateUnder outside (n + 1) s = Result.andThen (iterateUnder outside n s) (stepGiven (outside n)) := rfl

theorem Outside.after_zero (outside : Outside) : outside.after 0 = outside := by
  funext k
  exact congrArg outside (Nat.zero_add k)

theorem Outside.after_after (outside : Outside) (m n : Nat) : (outside.after m).after n = outside.after (m + n) := by
  funext k
  exact congrArg outside (Nat.add_assoc m n k).symm

/-- Iterations compose, the later ones under what the outside does then. -/
theorem iterateUnder_add (outside : Outside) (m n : Nat) (s : State) :
    iterateUnder outside (m + n) s = Result.andThen (iterateUnder outside m s) (iterateUnder (outside.after m) n) := by
  induction n with
  | zero =>
    rw [Nat.add_zero]
    cases iterateUnder outside m s <;> rfl
  | succ n ih =>
    rw [← Nat.add_assoc, iterateUnder_succ, ih]
    cases iterateUnder outside m s <;> rfl

/-- The first iteration, and then the rest. -/
theorem iterateUnder_first (outside : Outside) (n : Nat) (s : State) :
    iterateUnder outside (n + 1) s = Result.andThen (stepGiven (outside 0) s) (iterateUnder (outside.after 1) n) := by
  rw [Nat.add_comm, iterateUnder_add]
  rfl

/-- A property that every iteration under what the outside does keeps, and under which every one has a move, holds after
any number of them. -/
theorem iterateUnder_keeps {P : State → Prop} {outside : Outside}
    (hP : ∀ n s, P s → ∃ t, stepGiven (outside n) s = .next t ∧ P t) (n : Nat) {s : State} (h : P s) :
    ∃ t, iterateUnder outside n s = .next t ∧ P t := by
  induction n with
  | zero => exact ⟨s, rfl, h⟩
  | succ n ih =>
    obtain ⟨u, hu, hPu⟩ := ih
    obtain ⟨t, ht, hPt⟩ := hP n u hPu
    exact ⟨t, by rw [iterateUnder_succ, hu]; exact ht, hPt⟩

/-- A state with its own queue is itself. -/
theorem State.queued_inputs (s : State) : s.queued s.inputs = s := rfl

/-- One step is one iteration under what the queue says, and the queue moves on. -/
theorem step_eq_stepGiven (s : State) :
    step s = Result.queued (stepGiven (s.inputs.headD {}) s) s.inputs.tail := by
  rw [← congrArg step s.queued_inputs]
  unfold stepGiven
  generalize s.inputs = q
  cases q with
  | nil => exact (step_empty s).trans (step_queued s [] {})
  | cons x q => exact step_queued s q x

/-! ## The driver's frame -/

/-- A frame goes on exactly when its iterations lead to a state that is not PANIC. -/
theorem frameEnd_goesOn_iff (r : Result) (t : State) : frameEnd r = .goesOn t ↔ r = .next t ∧ t.run ≠ .panic := by
  cases r with
  | next u =>
    by_cases h : u.run = .panic
    · simp only [frameEnd, if_pos h, reduceCtorEq, Host.Outcome.next.injEq, false_iff, not_and, not_not]
      rintro rfl
      exact h
    · simp only [frameEnd, if_neg h, FrameEnd.goesOn.injEq, Host.Outcome.next.injEq]
      exact ⟨fun e => ⟨e, e ▸ h⟩, And.left⟩
  | fault x => simp [frameEnd]
  | refused x => simp [frameEnd]

/-- A frame ends the run exactly when its iterations lead to PANIC; the report is that state's. -/
theorem frameEnd_panicked_iff (r : Result) (info : Option PanicInfo) (t : State) :
    frameEnd r = .panicked info t ↔ r = .next t ∧ t.run = .panic ∧ info = t.panicInfo := by
  cases r with
  | next u =>
    by_cases h : u.run = .panic
    · simp only [frameEnd, if_pos h, FrameEnd.panicked.injEq, Host.Outcome.next.injEq]
      constructor
      · rintro ⟨rfl, rfl⟩
        exact ⟨rfl, h, rfl⟩
      · rintro ⟨rfl, -, rfl⟩
        exact ⟨rfl, rfl⟩
    · simp only [frameEnd, if_neg h, reduceCtorEq, Host.Outcome.next.injEq, false_iff, not_and]
      rintro rfl hp
      exact absurd hp h
  | fault x => simp [frameEnd]
  | refused x => simp [frameEnd]

/-- A frame has no move exactly when its iterations lead to no next state. -/
theorem frameEnd_noMove_iff (r : Result) : frameEnd r = .noMove ↔ ∀ t, r ≠ .next t := by
  cases r with
  | next u => by_cases h : u.run = .panic <;> simp [frameEnd, h]
  | fault x => simp [frameEnd]
  | refused x => simp [frameEnd]

theorem driverFrame_goesOn_iff (outside : Outside) (s t : State) :
    driverFrame outside s = .goesOn t ↔ iterateUnder outside iterationsPerFrame s = .next t ∧ t.run ≠ .panic :=
  frameEnd_goesOn_iff _ t

theorem driverFrame_panicked_iff (outside : Outside) (s t : State) (info : Option PanicInfo) :
    driverFrame outside s = .panicked info t ↔
      iterateUnder outside iterationsPerFrame s = .next t ∧ t.run = .panic ∧ info = t.panicInfo :=
  frameEnd_panicked_iff _ info t

theorem driverFrame_noMove_iff (outside : Outside) (s : State) :
    driverFrame outside s = .noMove ↔ ∀ t, iterateUnder outside iterationsPerFrame s ≠ .next t :=
  frameEnd_noMove_iff _

/-! ## The run -/

theorem driverRun_zero (outside : Outside) (s : State) : driverRun outside 0 s = .stopped s := rfl

theorem driverRun_succ (outside : Outside) (frames : Nat) (s : State) :
    driverRun outside (frames + 1) s =
      (driverFrame outside s).andThen (driverRun (outside.after iterationsPerFrame) frames) := rfl

/-- A run whose first frame goes on is the rest of the run from where it leads. -/
theorem driverRun_of_goesOn {outside : Outside} {s t : State} (frames : Nat) (h : driverFrame outside s = .goesOn t) :
    driverRun outside (frames + 1) s = driverRun (outside.after iterationsPerFrame) frames t := by
  rw [driverRun_succ, h, FrameEnd.andThen]

/-- A run whose first frame ends in PANIC ends there. -/
theorem driverRun_of_panicked {outside : Outside} {s t : State} {info : Option PanicInfo} (frames : Nat)
    (h : driverFrame outside s = .panicked info t) : driverRun outside (frames + 1) s = .panicked info t := by
  rw [driverRun_succ, h, FrameEnd.andThen]

/-- A run whose first frame has no move has none. -/
theorem driverRun_of_noMove {outside : Outside} {s : State} (frames : Nat) (h : driverFrame outside s = .noMove) :
    driverRun outside (frames + 1) s = .noMove := by
  rw [driverRun_succ, h, FrameEnd.andThen]

/-- A run does not terminate where every iteration keeps a property that rules PANIC out. -/
theorem nonTerminating_of_keeps {P : State → Prop} (hsafe : ∀ s, P s → s.run ≠ .panic) {outside : Outside}
    (hP : ∀ n s, P s → ∃ t, stepGiven (outside n) s = .next t ∧ P t) {s : State} (h : P s) :
    s.NonTerminating outside := by
  intro frames
  induction frames generalizing outside s with
  | zero => exact ⟨s, rfl⟩
  | succ frames ih =>
    obtain ⟨t, ht, hPt⟩ := iterateUnder_keeps hP iterationsPerFrame h
    rw [driverRun_of_goesOn frames ((driverFrame_goesOn_iff outside s t).2 ⟨ht, hsafe t hPt⟩)]
    exact ih (fun n => hP (iterationsPerFrame + n)) hPt

end Sys2Proof.Machine
end

