-- ==== Sys2Proof/Laws/Fetch.lean ====
section
/-! SUPPORT. Fetching agrees with the decoder: the CPU reads the bytes at PC that the decoder would consume. -/

namespace Sys2Proof.Machine

/-- The three bytes that a CPU read gives at PC. -/
def State.bytesAtPc (s : State) : List Byte := [s.memRead s.pc, s.memRead (s.pc + 1), s.memRead (s.pc + 1 + 1)]

theorem memRead_pc (s : State) (w a : Word) : ({ s with pc := w } : State).memRead a = s.memRead a := rfl

/-- The instruction fetched is the one the decoder reads from the bytes at PC, and PC ends past exactly its bytes. -/
theorem fetchInstr_eq_decode (s : State) :
    decode s.bytesAtPc = .ok (s.fetchInstr.1, s.bytesAtPc.drop (instrLength (s.memRead s.pc))) ∧
    s.fetchInstr.2 = { s with pc := s.pc + BitVec.ofNat 16 (instrLength (s.memRead s.pc)) } := by
  have h2 : s.pc + 1 + 1 = s.pc + 2 := by bv_omega
  have h3 : s.pc + 1 + 1 + 1 = s.pc + 3 := by bv_omega
  unfold State.fetchInstr State.fetch8 instrLength State.bytesAtPc
  simp only [memRead_pc]
  by_cases hp : s.memRead s.pc = prefixByte
  · rw [if_pos hp, if_pos hp, hp, h2]
    exact ⟨rfl, rfl⟩
  · rw [if_neg hp, if_neg hp]
    cases hs : stdSlot (s.memRead s.pc) with
    | whole i => exact ⟨decode_whole _ hp hs, rfl⟩
    | byte f => rw [h2]; exact ⟨decode_byte _ _ hp hs, rfl⟩
    | word f => rw [h3]; exact ⟨decode_word _ _ _ hp hs, rfl⟩

/-- The fields that the bus reads decide what is fetched: clearing the latch changes nothing. -/
theorem fetchInstr_latch (s : State) (b : Bool) :
    ({ s with eiLatch := b } : State).fetchInstr.1 = s.fetchInstr.1 := by
  unfold State.fetchInstr State.fetch8
  have h : ∀ a, ({ s with eiLatch := b } : State).memRead a = s.memRead a := fun _ => rfl
  simp only [memRead_pc, h]
  split
  · rfl
  · split <;> rfl

end Sys2Proof.Machine
end

