-- ==== Sys2Proof/Laws/Flags.lean ====
section
/-! SUPPORT. Every flag computation in the numbers of the spec's rules: the byte of F made of four flags, and what each
arithmetic, logic, decimal, shift and bit function gives. -/

namespace Sys2Proof.Machine

/-! ## Flags and small helpers -/

theorem toByte_flagByte (z n h c : Bool) : (Flags.mk z n h c).toByte = flagByte z n h c := by
  revert z n h c; decide

theorem lowNibble_eq (v : Byte) : lowNibble v = v.toNat % 16 := by
  revert v; decide +kernel

theorem toNat_loByte (w : Word) : (loByte w).toNat = w.toNat % 256 := by simp [loByte]

theorem lowNibble_loByte (w : Word) : lowNibble (loByte w) = w.toNat % 16 := by
  rw [lowNibble_eq, toNat_loByte]; omega

/-- The conditions are those of R360. -/
theorem cond_eq_taken (s : State) (cc : Cond) : s.flags.cond cc = s.taken cc := by
  unfold State.taken State.flags Flags.ofByte Flags.cond State.zeroFlag State.carryFlag
  cases cc <;> simp

theorem operandCycles_eq (o : Operand8) (reg mem : Nat) : operandCycles o reg mem = if o = .atHl then mem else reg := by
  cases o <;> rfl

theorem highAddr_eq (n : Byte) : highAddr n = wordOf 0xFF n := by
  apply BitVec.eq_of_toNat_eq
  rw [toNat_wordOf]; simp [highAddr]; omega

/-- A word and a signed byte, modulo 65536. -/
theorem add_sext16 (e : Byte) (w : Word) : w + sext16 e = BitVec.ofInt 16 (w.toNat + e.toInt) := by
  apply BitVec.eq_of_toInt_eq
  simp [sext16, BitVec.toInt_add, BitVec.toInt_signExtend_of_le, BitVec.toInt_ofInt, BitVec.toInt_eq_toNat_bmod w]

/-! ## The computations -/

theorem addFlags_eq (a v : Byte) (c : Bool) : ((addFlags a v c).1, (addFlags a v c).2.toByte) = sumOf a v c := by
  unfold addFlags sumOf
  simp only [toByte_flagByte, lowNibble_eq]
  congr 1
  · apply BitVec.eq_of_toNat_eq; simp [byteOf]
  · congr 1
    rw [Bool.eq_iff_iff]; simp [← BitVec.toNat_inj]

theorem subFlags_eq (a v : Byte) (c : Bool) : ((subFlags a v c).1, (subFlags a v c).2.toByte) = differenceOf a v c := by
  have h : BitVec.ofInt 8 ((a.toNat : Int) - v.toNat - c.toNat) = byteOf ((a.toNat + 512 - v.toNat - c.toNat) % 256) := by
    apply BitVec.eq_of_toNat_eq; simp [byteOf, BitVec.toNat_ofInt]
    have := a.isLt; have := v.isLt; have : c.toNat ≤ 1 := by cases c <;> decide
    omega
  unfold subFlags differenceOf
  simp only [toByte_flagByte, lowNibble_eq, h]
  congr 1
  congr 1
  rw [Bool.eq_iff_iff]; simp [← BitVec.toNat_inj, byteOf]

theorem incFlags_eq : ∀ v : Byte,
    v + 1 = byteOf (v.toNat + 1) ∧ (v + 1 == 0) = decide (v.toNat = 255) ∧
      (v &&& 0x0F == 0x0F) = decide (v.toNat % 16 = 15) := by
  decide +kernel

theorem decFlags_eq : ∀ v : Byte,
    v - 1 = byteOf (v.toNat + 255) ∧ (v - 1 == 0) = decide (v.toNat = 1) ∧
      (v &&& 0x0F == 0x00) = decide (v.toNat % 16 = 0) := by
  decide +kernel

theorem and_0x0FFF (w : Word) : (w &&& 0x0FFF).toNat = w.toNat % 0x1000 := by
  rw [BitVec.toNat_and]
  exact Nat.and_two_pow_sub_one_eq_mod w.toNat 12

theorem spOffsetFlags_eq (sp : Word) (e : Byte) :
    (spOffsetFlags sp e).toByte =
      flagByte false false (decide (sp.toNat % 16 + e.toNat % 16 > 15)) (decide (sp.toNat % 256 + e.toNat > 255)) := by
  unfold spOffsetFlags
  rw [toByte_flagByte, lowNibble_loByte, lowNibble_eq, toNat_loByte]

theorem shiftResult_code : ∀ (v : Byte) (c : Bool) (y : Fin 8),
    (shiftResult (shiftOpOf y) v c).1 = byteOf (shiftTable (shiftOpOf y) v c).1 ∧
    (shiftResult (shiftOpOf y) v c).2 = (shiftTable (shiftOpOf y) v c).2 ∧
    ((shiftResult (shiftOpOf y) v c).1 == 0) = decide ((shiftTable (shiftOpOf y) v c).1 = 0) := by
  decide +kernel

/-- The shifts and rotates are those of the table of R324. -/
theorem shiftResult_eq (op : ShiftOp) (v : Byte) (c : Bool) :
    (shiftResult op v c).1 = byteOf (shiftTable op v c).1 ∧ (shiftResult op v c).2 = (shiftTable op v c).2 ∧
      ((shiftResult op v c).1 == 0) = decide ((shiftTable op v c).1 = 0) := by
  cases op
  · exact shiftResult_code v c 0
  · exact shiftResult_code v c 1
  · exact shiftResult_code v c 2
  · exact shiftResult_code v c 3
  · exact shiftResult_code v c 4
  · exact shiftResult_code v c 5
  · exact shiftResult_code v c 6
  · exact shiftResult_code v c 7

theorem resetBit_eq : ∀ (b : Fin 8) (v : Byte),
    resetBit b v = byteOf (v.toNat - 2 ^ b.val * (v.getLsbD b.val).toNat) := by
  decide +kernel

theorem setBit_eq : ∀ (b : Fin 8) (v : Byte),
    setBit b v = byteOf (v.toNat + 2 ^ b.val * (!v.getLsbD b.val).toNat) := by
  decide +kernel

end Sys2Proof.Machine
end

