-- ==== Sys2Proof/Laws/Frames.lean ====
section
/-! SUPPORT. Frames of the slots that are not the CPU's, of frame buffers, and of the memory after a reset. -/

namespace Sys2Proof.Machine

/-! ## Slots -/

/-- The MMU's slot changes the DMA countdown alone. -/
theorem mmuTick_eq (s : State) : s.mmuTick = { s with dmaCountdown := s.mmuTick.dmaCountdown } := by
  unfold State.mmuTick
  split <;> rfl

/-- A PPU tick changes memory and the PPU's own state alone. -/
theorem ppuTick_eq (s : State) :
    s.ppuTick = { s with mem := s.ppuTick.mem, frameSync := s.ppuTick.frameSync, windowLine := s.ppuTick.windowLine,
                         bgIndex := s.ppuTick.bgIndex, back := s.ppuTick.back, front := s.ppuTick.front } := by
  have hP : PpuClosed (fun t =>
      t = { s with mem := t.mem, frameSync := t.frameSync, windowLine := t.windowLine, bgIndex := t.bgIndex,
                   back := t.back, front := t.front }) := by
    constructor
    all_goals
      intro t
      intros
      next h => first | (rw [h]; done) | (rw [h]; rfl)
  exact hP.ppuTick rfl

/-! ## Frame buffers -/

theorem blankFrame_wf : Frame.wf blankFrame = true := by simp [Frame.wf, blankFrame]

theorem cell_blankFrame (x y : Nat) : Frame.cell blankFrame x y = 0 := by
  unfold Frame.cell blankFrame
  simp only [List.getD, List.getElem?_replicate]
  split
  · simp only [Option.getD_some, List.getElem?_replicate]
    split <;> rfl
  · rfl

theorem cell_set_other (frame : Frame) (line : Line) {y ly : Nat} (x : Nat) (h : y ≠ ly) :
    Frame.cell (frame.set ly line) x y = Frame.cell frame x y := by
  unfold Frame.cell
  simp only [List.getD, List.getElem?_set, if_neg (Ne.symm h)]

theorem cell_set_same (frame : Frame) (line : Line) {ly : Nat} (x : Nat) (h : ly < frame.length) :
    Frame.cell (frame.set ly line) x ly = line.getD x 0 := by
  unfold Frame.cell
  simp [List.getD, h]

/-- A line put into a frame keeps the frame's form, whatever the row. -/
theorem Frame.wf_set {frame : Frame} (ly : Nat) {line : Line} (h : Frame.wf frame = true)
    (hl : line.length = 160 ∨ line.length = (frame.getD ly []).length) : Frame.wf (frame.set ly line) = true := by
  unfold Frame.wf at *
  simp only [Bool.and_eq_true, beq_iff_eq, List.all_eq_true, List.length_set] at *
  refine ⟨h.1, fun x hx => ?_⟩
  by_cases hly : ly < frame.length
  · rcases List.mem_or_eq_of_mem_set hx with hx | rfl
    · exact h.2 x hx
    · rcases hl with hl | hl
      · exact hl
      · rw [hl]
        simp only [List.getD, List.getElem?_eq_getElem hly, Option.getD_some]
        exact h.2 _ (List.getElem_mem _)
  · rw [List.set_eq_of_length_le (by omega)] at hx
    exact h.2 x hx

/-! ## Memory after a reset -/

theorem Memory.read_filter_keep (m : Memory) {p : Host.Cell → Bool} {a : Nat} (h : ∀ c : Host.Cell, c.1 = a → p c = true) :
    Memory.read (m.filter p) a = Memory.read m a := by
  induction m with
  | nil => rfl
  | cons c m ih =>
    by_cases hc : p c = true
    · rw [List.filter_cons_of_pos hc]
      simp only [Memory.read]
      rw [ih]
    · rw [List.filter_cons_of_neg hc, ih]
      have : c.1 ≠ a := fun e => hc (h c e)
      simp only [Memory.read]
      rw [if_neg this]

theorem Memory.read_append_left {m n : Memory} {a : Nat} (h : ∀ c ∈ n, c.1 ≠ a) :
    Memory.read (m ++ n) a = Memory.read m a := by
  induction m with
  | nil =>
    rw [List.nil_append]
    induction n with
    | nil => rfl
    | cons c n ih =>
      simp only [Memory.read]
      rw [if_neg (h c (by simp))]
      exact ih (fun d hd => h d (by simp [hd]))
  | cons c m ih =>
    rw [List.cons_append]
    simp only [Memory.read]
    rw [ih]

theorem Memory.read_append_right {m n : Memory} {a : Nat} (h : ∀ c ∈ m, c.1 ≠ a) :
    Memory.read (m ++ n) a = Memory.read n a := by
  induction m with
  | nil => rfl
  | cons c m ih =>
    rw [List.cons_append]
    simp only [Memory.read]
    rw [if_neg (h c (by simp))]
    exact ih (fun d hd => h d (by simp [hd]))

/-- After an explicit reset the ROM area reads as before. -/
theorem read_bootMemory_rom (s : State) {a : Nat} (h : a < 0x8000) :
    Memory.read s.bootMemory a = Memory.read s.mem a := by
  unfold State.bootMemory
  rw [Memory.read_append_left, Memory.read_filter_keep]
  · intro c hc
    simp; omega
  · intro c hc
    have := (List.mem_filter.mp hc).2
    simp at this; omega

/-- After an explicit reset everything above ROM is the parameter `InitMem`'s. -/
theorem read_bootMemory_ram (s : State) {a : Nat} (h : 0x8000 ≤ a) :
    Memory.read s.bootMemory a = Memory.read s.config.initMem a := by
  unfold State.bootMemory
  rw [Memory.read_append_right, Memory.read_filter_keep]
  · intro c hc
    simp; omega
  · intro c hc
    have := (List.mem_filter.mp hc).2
    simp at this; omega

/-- The memory after an explicit reset is in canonical form. -/
theorem wf_bootMemory {s : State} (hm : Memory.wf s.mem = true) (hi : Memory.wf s.config.initMem = true) :
    Memory.wf s.bootMemory = true := by
  unfold State.bootMemory
  have h1 := (Memory.wf_iff _).1 (Memory.wf_filter (fun cell => decide (cell.1 < 0x8000)) hm)
  have h2 := (Memory.wf_iff _).1 (Memory.wf_filter (fun cell => decide (0x8000 ≤ cell.1)) hi)
  rw [Memory.wf_iff]
  refine ⟨List.pairwise_append.2 ⟨h1.1, h2.1, ?_⟩, ?_⟩
  · intro x hx y hy
    have hx' := (List.mem_filter.1 hx).2
    have hy' := (List.mem_filter.1 hy).2
    simp at hx' hy'
    omega
  · intro c hc
    rcases List.mem_append.1 hc with hc | hc
    · exact h1.2 c hc
    · exact h2.2 c hc

/-- What the array holds after a cartridge is copied into it from an address on (R128). -/
theorem Memory.read_loadFrom (rom : List Byte) (b : Nat) (m : Memory) (a : Nat) :
    Memory.read (Memory.loadFrom rom b m) a =
      if b ≤ a ∧ a < b + rom.length ∧ a < 0x8000 then rom.getD (a - b) 0 else Memory.read m a := by
  induction rom generalizing b m with
  | nil => simp [Memory.loadFrom]; omega
  | cons v rom ih =>
    simp only [Memory.loadFrom, List.length_cons]
    by_cases hb : b < 0x8000
    · rw [if_pos hb, ih, Memory.read_write]
      by_cases e : a = b
      · subst e; simp; omega
      · by_cases h : b + 1 ≤ a ∧ a < b + 1 + rom.length ∧ a < 0x8000
        · rw [if_pos h, if_pos (by omega)]
          obtain ⟨k, rfl⟩ : ∃ k, a = b + 1 + k := ⟨a - (b + 1), by omega⟩
          have : b + 1 + k - b = k + 1 := by omega
          rw [this, show b + 1 + k - (b + 1) = k by omega]
          rfl
        · rw [if_neg h, if_neg e, if_neg (by omega)]
    · rw [if_neg hb, if_neg (by omega)]

end Sys2Proof.Machine
end

