-- ==== Sys2Proof/Tests/Slice0.lean ====
section
/-! SUPPORT. Tests. Every expected value is from spec/95_test_vectors.md or worked by hand from the rule named. The second
half shows, for every statement with hypotheses, a concrete state and operands that meet them. -/

namespace Sys2Proof.Tests

open Sys2Proof Sys2Proof.Machine

/-! ## Helpers -/

/-- The default start state of the vectors (spec/95_test_vectors.md, "Conventions"). -/
def start : State := { State.reset with a := 0, f := 0, c := 0, e := 0, h := 0, l := 0 }

/-- A state with some bytes of the array set. -/
def State.poke (s : State) (bytes : List (Word × Byte)) : State := bytes.foldl (fun t x => t.rawWrite x.1 x.2) s

/-- One instruction, from its bytes at PC, by `ExecuteOne` (R413). -/
def run (bytes : List Byte) (s : State) : Option State :=
  match (State.placeFrom bytes s.pc s).executeOne with
  | .next t => some t
  | _ => none

/-- A, F, PC and the cycles charged. -/
def afpc (t : State) : Byte × Byte × Word × Nat := (t.a, t.f, t.pc, t.cpuCycles)

/-! ## Well-formedness -/

theorem test_prefix_alone_is_ill_formed : Instr.prefixCb.wellFormed = false := by decide
theorem test_prefixed_is_well_formed : Instr.rlcB.wellFormed = true := by decide
theorem test_any_operand_is_well_formed : (Instr.ldBcN16 0xFFFF).wellFormed = true := by decide

/-! ## Decoding: words written out from the fields of R150–R164 -/

/-- x = 1, y = 0 (B), z = 1 (C): 01 000 001. -/
theorem test_decode_ld_b_c : decodeWhole [0b01000001] = some .ldBC := by decide
/-- x = 0, z = 1, q = 0, p = 1 (DE): 00 01 0 001, operand low byte first. -/
theorem test_decode_ld_de : decodeWhole [0b00010001, 0x34, 0x12] = some (.ldDeN16 0x1234) := by decide
/-- x = 2, y = 7 (CP), z = 6 (the byte at HL): 10 111 110. -/
theorem test_decode_cp_at_hl : decodeWhole [0b10111110] = some .cpAtHl := by decide
/-- x = 0, z = 3, q = 1, p = 3 (SP): 00 11 1 011. -/
theorem test_decode_dec_sp : decodeWhole [0b00111011] = some .decSp := by decide
/-- CB, x = 3 (SET), y = 5, z = 4 (H): 11 101 100. -/
theorem test_decode_set_5_h : decodeWhole [0xCB, 0b11101100] = some .set5H := by decide
/-- x = 3, z = 4, y = 2 (NC): 11 010 100. -/
theorem test_decode_call_nc : decodeWhole [0b11010100, 0xCD, 0xAB] = some (.callNcN16 0xABCD) := by decide
/-- x = 1, y = 6, z = 6: HALT, not a load. -/
theorem test_decode_halt : decodeWhole [0b01110110] = some .halt := by decide
/-- x = 3, z = 3, y = 4: an unused opcode. -/
theorem test_decode_unused : decodeWhole [0b11100011] = some .unusedE3 := by decide
theorem test_decode_truncated : decode [0xC3, 0x50] = .error (.missingOperand 0xC3) := rfl
theorem test_table_word_prefixed : decodeTableWord 16 0xCB7C = some .bit7H := by decide
theorem test_table_word_operand : decodeTableWord 24 0x0150C3 = some (.jpN16 0x0150) := by decide

/-! ## 8-bit loads (V-LOAD8) -/

theorem test_ld_a_hl_inc_wraps :
    (run [0x2A] (State.poke { start with h := 0xFF, l := 0xFF } [(0xFFFF, 0x1F)])).map (fun t => (t.a, t.h, t.l)) =
      some (0x1F, 0x00, 0x00) := by decide
theorem test_ld_hl_dec_a :
    (run [0x32] { start with a := 0x12, h := 0xC0, l := 0x00 }).map (fun t => (t.rawRead 0xC000, t.h, t.l, t.cpuCycles)) =
      some (0x12, 0xBF, 0xFF, 8) := by decide
theorem test_ld_a_echo :
    (run [0xFA, 0x00, 0xE0] (State.poke start [(0xC000, 0x3C)])).map afpc = some (0x3C, 0x00, 0x0103, 16) := by decide
theorem test_ld_prohibited_reads_zero :
    (run [0xFA, 0xA0, 0xFE] (State.poke { start with a := 0x55 } [(0xFEA0, 0x77)])).map State.a = some 0x00 := by decide
theorem test_ld_rom_write_dropped :
    (run [0xEA, 0x00, 0x20] { start with a := 0x01 }).map (fun t => t.rawRead 0x2000) = some 0x00 := by decide
theorem test_ld_stat_write :
    (run [0xEA, 0x41, 0xFF] { start with a := 0xFF }).map (fun t => t.rawRead 0xFF41) = some 0xFD := by decide
theorem test_ldh_joypad_select :
    (run [0xE0, 0x00] { start with a := 0x20 }).map (fun t => t.rawRead 0xFF00) = some 0xEF := by decide
theorem test_ldh_joypad_read :
    (run [0xF0, 0x00] (State.poke start [(0xFF00, 0xEF)])).map State.a = some 0xEF := by decide
theorem test_ldh_div_clears : (run [0xE0, 0x04] { start with a := 0x55 }).map (fun t => t.rawRead 0xFF04) = some 0x00 := by
  decide
theorem test_ld_lyc_rechecks :
    (run [0xEA, 0x45, 0xFF] (State.poke { start with a := 0x05 } [(0xFF44, 0x05), (0xFF41, 0x80)])).map
      (fun t => (t.rawRead 0xFF45, t.rawRead 0xFF41, t.rawRead 0xFF0F)) = some (0x05, 0x84, 0xE1) := by decide
theorem test_ld_length_reload :
    (run [0xEA, 0x11, 0xFF] { start with a := 0x3F }).map (fun t => (t.rawRead 0xFF11, t.lengthTimer.ch1)) =
      some (0x3F, 1) := by decide

/-! ## 16-bit loads (V-LOAD16) -/

theorem test_ld_n16_sp :
    (run [0x08, 0x00, 0xC0] { start with sp := 0xFFF8 }).map
      (fun t => (t.rawRead 0xC000, t.rawRead 0xC001, t.cpuCycles)) = some (0xF8, 0xFF, 20) := by decide
theorem test_pop_af_masks :
    (run [0xF1] (State.poke { start with sp := 0xC000 } [(0xC000, 0xFF), (0xC001, 0x12)])).map
      (fun t => (t.a, t.f, t.sp)) = some (0x12, 0xF0, 0xC002) := by decide
theorem test_push_wraps_into_ie :
    (run [0xC5] { start with b := 0x12, c := 0x34, sp := 0x0001 }).map
      (fun t => (t.sp, t.rawRead 0xFFFF, t.rawRead 0x0000)) = some (0xFFFF, 0x34, 0x00) := by decide
theorem test_ld_hl_sp_negative :
    (run [0xF8, 0xFF] { start with sp := 0x0005 }).map (fun t => (t.h, t.l, t.f)) = some (0x00, 0x04, 0x30) := by decide
theorem test_ld_hl_sp_no_carry :
    (run [0xF8, 0xFF] { start with sp := 0x0000 }).map (fun t => (t.h, t.l, t.f)) = some (0xFF, 0xFF, 0x00) := by decide

/-! ## 8-bit arithmetic (V-ALU8, E4, E5) -/

theorem test_add : (run [0x80] { start with a := 0x3A, b := 0xC6 }).map afpc = some (0x00, 0xB0, 0x0101, 4) := by decide
theorem test_adc_carry_in : (run [0xCE, 0xFF] { start with f := 0x10 }).map afpc = some (0x00, 0xB0, 0x0102, 8) := by decide
theorem test_sub : (run [0xD6, 0x0F] { start with a := 0x3E }).map afpc = some (0x2F, 0x60, 0x0102, 8) := by decide
theorem test_sbc_borrow_all : (run [0xDE, 0xFF] { start with f := 0x10 }).map afpc = some (0x00, 0xF0, 0x0102, 8) := by
  decide
theorem test_sbc : (run [0x9C] { start with a := 0x3B, h := 0x2A, f := 0x10 }).map afpc = some (0x10, 0x40, 0x0101, 4) := by
  decide
theorem test_and : (run [0xA5] { start with a := 0x5A, l := 0x3F }).map afpc = some (0x1A, 0x20, 0x0101, 4) := by decide
theorem test_or : (run [0xB7] { start with a := 0x5A, f := 0xF0 }).map afpc = some (0x5A, 0x00, 0x0101, 4) := by decide
theorem test_xor : (run [0xAF] { start with a := 0x5A, f := 0x70 }).map afpc = some (0x00, 0x80, 0x0101, 4) := by decide
theorem test_cp_keeps_a : (run [0xFE, 0x40] { start with a := 0x3C }).map afpc = some (0x3C, 0x50, 0x0102, 8) := by decide
theorem test_inc_keeps_carry : (run [0x3C] { start with a := 0xFF, f := 0x10 }).map afpc = some (0x00, 0xB0, 0x0101, 4) := by
  decide
theorem test_dec_wraps : (run [0x05] { start with f := 0x10 }).map (fun t => (t.b, t.f)) = some (0xFF, 0x70) := by decide
theorem test_dec_rom_byte :
    (run [0x35] { start with h := 0x01, l := 0x50 }).map (fun t => (t.rawRead 0x0150, t.f, t.cpuCycles)) =
      some (0x00, 0x60, 12) := by decide
theorem test_daa_add : (run [0x27] { start with a := 0x9A }).map afpc = some (0x00, 0x90, 0x0101, 4) := by decide
theorem test_daa_sub : (run [0x27] { start with a := 0xF0, f := 0x50 }).map afpc = some (0x90, 0x50, 0x0101, 4) := by decide
theorem test_cpl : (run [0x2F] { start with a := 0x35, f := 0x90 }).map afpc = some (0xCA, 0xF0, 0x0101, 4) := by decide
theorem test_scf : (run [0x37] { start with f := 0xE0 }).map afpc = some (0x00, 0x90, 0x0101, 4) := by decide
theorem test_ccf : (run [0x3F] { start with f := 0xF0 }).map afpc = some (0x00, 0x80, 0x0101, 4) := by decide

/-! ## 16-bit arithmetic (V-ALU16) -/

theorem test_add_hl_bc :
    (run [0x09] { start with h := 0x8A, l := 0x23, b := 0x06, c := 0x05, f := 0x80 }).map
      (fun t => (t.h, t.l, t.f, t.cpuCycles)) = some (0x90, 0x28, 0xA0, 8) := by decide
theorem test_add_sp_low_byte_carries :
    (run [0xE8, 0xFF] { start with sp := 0x00FF }).map (fun t => (t.sp, t.f)) = some (0x00FE, 0x30) := by decide
theorem test_inc_bc_wraps :
    (run [0x03] { start with b := 0xFF, c := 0xFF, f := 0xF0 }).map (fun t => (t.b, t.c, t.f)) = some (0, 0, 0xF0) := by
  decide
theorem test_dec_bc_wraps : (run [0x0B] start).map (fun t => (t.b, t.c, t.f)) = some (0xFF, 0xFF, 0x00) := by decide

/-! ## Rotates, shifts, bits (V-ROT) -/

theorem test_rlca_clears_z : (run [0x07] { start with f := 0x80 }).map afpc = some (0x00, 0x00, 0x0101, 4) := by decide
theorem test_rla : (run [0x17] { start with a := 0x95, f := 0x10 }).map afpc = some (0x2B, 0x10, 0x0101, 4) := by decide
theorem test_rrca : (run [0x0F] { start with a := 0x3B }).map afpc = some (0x9D, 0x10, 0x0101, 4) := by decide
theorem test_rra : (run [0x1F] { start with a := 0x81 }).map afpc = some (0x40, 0x10, 0x0101, 4) := by decide
theorem test_rlc_sets_z : (run [0xCB, 0x00] start).map (fun t => (t.b, t.f, t.pc, t.cpuCycles)) =
    some (0x00, 0x80, 0x0102, 8) := by decide
theorem test_rr_at_hl :
    (run [0xCB, 0x1E] (State.poke { start with h := 0xC0, f := 0x10 } [(0xC000, 0x8A)])).map
      (fun t => (t.rawRead 0xC000, t.f, t.cpuCycles)) = some (0xC5, 0x00, 16) := by decide
theorem test_sra : (run [0xCB, 0x2F] { start with a := 0x8A }).map afpc = some (0xC5, 0x00, 0x0102, 8) := by decide
theorem test_swap : (run [0xCB, 0x37] { start with a := 0xF1, f := 0x70 }).map afpc = some (0x1F, 0x00, 0x0102, 8) := by
  decide
theorem test_bit_at_hl :
    (run [0xCB, 0x66] (State.poke { start with h := 0xC0, f := 0x10 } [(0xC000, 0xEF)])).map
      (fun t => (t.rawRead 0xC000, t.f, t.cpuCycles)) = some (0xEF, 0xB0, 12) := by decide
theorem test_res : (run [0xCB, 0x87] { start with a := 0xFF, f := 0xF0 }).map afpc = some (0xFE, 0xF0, 0x0102, 8) := by
  decide
theorem test_set_at_hl :
    (run [0xCB, 0xDE] { start with h := 0xC0 }).map (fun t => (t.rawRead 0xC000, t.f, t.cpuCycles)) =
      some (0x08, 0x00, 16) := by decide

/-! ## Control flow (V-CTRL) -/

theorem test_jr_backward : (run [0x18, 0x80] start).map afpc = some (0x00, 0x00, 0x0082, 12) := by decide
theorem test_jp_not_taken : (run [0xC2, 0x50, 0x01] { start with f := 0x80 }).map afpc = some (0x00, 0x80, 0x0103, 12) := by
  decide
theorem test_call :
    (run [0xCD, 0x34, 0x12] start).map (fun t => (t.pc, t.sp, t.rawRead 0xFFFD, t.rawRead 0xFFFC, t.cpuCycles)) =
      some (0x1234, 0xFFFC, 0x01, 0x03, 24) := by decide
theorem test_ret_nc :
    (run [0xD0] (State.poke { start with sp := 0xFFFC } [(0xFFFC, 0x03), (0xFFFD, 0x01)])).map
      (fun t => (t.pc, t.sp, t.cpuCycles)) = some (0x0103, 0xFFFE, 20) := by decide
theorem test_reti :
    (run [0xD9] (State.poke { start with sp := 0xFFFC } [(0xFFFC, 0x03), (0xFFFD, 0x01)])).map
      (fun t => (t.pc, t.ime, t.eiLatch)) = some (0x0103, true, false) := by decide
theorem test_rst_38 :
    (run [0xFF] start).map (fun t => (t.pc, t.rawRead 0xFFFD, t.rawRead 0xFFFC)) = some (0x0038, 0x01, 0x01) := by decide

/-! ## The CPU (V-SYS) -/

theorem test_ei : (run [0xFB] start).map (fun t => (t.ime, t.eiLatch, t.pc)) = some (true, true, 0x0101) := by decide
theorem test_stop_is_two_bytes : (run [0x10, 0x00] start).map (fun t => (t.run, t.pc)) = some (.stopped, 0x0102) := by
  decide
theorem test_unused_panics :
    (run [0xD3] start).map (fun t => (t.run, t.pc, t.panicInfo, t.cpuCycles)) =
      some (.panic, 0x0100, some ⟨0xD3, false, 0x0100⟩, 0) := by decide

/-! ## The bus (V-BUS, E8, E10) -/

theorem test_echo_write : (start.memWrite 0xE000 0xFF).memRead 0xC000 = 0xFF := by decide
theorem test_echo_top : (start.memWrite 0xFDFF 0x34).memRead 0xDDFF = 0x34 := by decide
theorem test_prohibited_write : (start.memWrite 0xFEA5 0x12).mem = [] := by decide
theorem test_dma_source_contended :
    ({ start with dmaCountdown := 4, dmaSource := 0xC0 } : State).memRead 0xC09F = 0xFF := by decide
theorem test_dma_source_end :
    ({ start with dmaCountdown := 4, dmaSource := 0xC0 } : State).memRead 0xC0A0 = 0x00 := by decide
theorem test_dma_copies :
    ((State.poke start [(0x8000, 0x11), (0x809F, 0x22)]).memWrite 0xFF46 0x80).rawRead 0xFE9F = 0x22 := by decide +kernel

/-! ## Interrupts (V-INT, E6) -/

/-- `IE`, `IF` and IME as given. -/
def pending (ie iff : Byte) : State := State.poke { start with ime := true, pc := 0x0150 } [(0xFFFF, ie), (0xFF0F, iff)]

theorem test_poll_priority :
    (fun t : State => (t.pc, t.rawRead 0xFF0F, t.ime, t.sp, t.rawRead 0xFFFD, t.rawRead 0xFFFC, t.cpuCycles))
      (pending 0x1F 0x1F).poll = (0x0040, 0x1E, false, 0xFFFC, 0x01, 0x50, 20) := by decide
theorem test_poll_joypad :
    (fun t : State => (t.pc, t.rawRead 0xFF0F)) (pending 0x14 0x1B).poll = (0x0060, 0x0B) := by decide
theorem test_poll_high_bits : (pending 0xE0 0xE0).poll.pc = 0x0150 := by decide

/-! ## The PPU (E9, V-PPU) -/

/-- STAT as the CPU reads it, and LY, after one PPU tick. -/
def tickAt (frameSync : Nat) (stat : Byte) : Byte × Byte :=
  (fun t : State => (t.memRead 0xFF41, t.memRead 0xFF44))
    ({ State.poke start [(0xFF41, stat)] with frameSync := frameSync } : State).ppuTick

theorem test_ppu_frame_start : tickAt 0 0x85 = (0x86, 0x00) := by decide
theorem test_ppu_hblank : tickAt 252 0x87 = (0x84, 0x00) := by decide
theorem test_ppu_line_1 : tickAt 456 0x84 = (0x82, 0x01) := by decide
theorem test_ppu_vblank : tickAt 65664 0x80 = (0x81, 0x90) := by decide

/-- "BG, unsigned tile data": the first eight shades of line 0. -/
theorem test_background_unsigned :
    (List.range 8).map (fun x =>
      ((State.poke start [(0xFF40, 0x91), (0xFF47, 0xE4), (0x8000, 0xF0), (0x8001, 0xCC)]).backgroundPixel 0 x).shade) =
      [3, 3, 1, 1, 2, 2, 0, 0] := by decide

/-- "object order by X": object 1 (lower X) is drawn last. -/
theorem test_object_order :
    (State.poke start [(0xFE01, 0x0C), (0xFE05, 0x08)]).drawOrder [0, 1] = [0, 1] := by decide
/-- "tie on X": the lower OAM index is drawn last. -/
theorem test_object_tie :
    (State.poke start [(0xFE01, 0x08), (0xFE05, 0x08)]).drawOrder [0, 1] = [1, 0] := by decide

/-! ## Reset (V-RESET) -/

theorem test_short_cartridge : powerOn {} [0x00] = .fault .invalidCartridgeSize := rfl
theorem test_reset_checksum : resetF [(0x014D, 0xA7)] = 0xB0 := by decide
theorem test_reset_lcdc : State.reset.rawRead 0xFF40 = 0x91 := by decide

/-! ## Witnesses: states and operands that meet the hypotheses of each statement -/

/-- A step goes on wherever the queue is empty. -/
theorem step_of_idle (s : State) (h : s.inputs = []) : ∃ t, step s = .next t := by
  have hb : ∃ u, s.beforeCpu = .next u := by
    unfold State.beforeCpu State.hostSlot State.hostJoypad State.input
    rw [h]
    exact ⟨_, rfl⟩
  obtain ⟨u, hu⟩ := hb
  have hc : ∃ v, u.cpuTick = .next v := by
    unfold State.cpuTick State.executeOne
    split_ifs
    · exact ⟨_, rfl⟩
    · exact ⟨_, rfl⟩
    · exact exec_next _ _
    · exact ⟨_, rfl⟩
  obtain ⟨v, hv⟩ := hc
  refine ⟨v.afterCpu s.input.apu, ?_⟩
  unfold step State.iteration
  rw [hu]
  change Result.andThen u.cpuTick _ = _
  rw [hv]
  rfl

theorem free_of_idle (s : State) (a : Word) (h : s.dmaCountdown = 0) : ¬ s.contended a := by
  unfold State.contended
  omega

theorem witness_DecodeOfEncodeIsIdentity :
    Instr.set7A.wellFormed = true ∧ (Instr.ldAtN16Sp 0x0000).wellFormed = true ∧
      (Instr.ldAtN16Sp 0xFFFF).wellFormed = true := by decide

theorem witness_DecodedBytesAreTheEncoding :
    decode [0xCB, 0x7E, 0x00] = .ok (.bit7AtHl, [0x00]) ∧ decode [0xCB] = .ok (.prefixCb, []) := ⟨rfl, rfl⟩

theorem witness_RegistersAndPairs : StackReg.bc ≠ StackReg.af ∧ StackReg.hl ≠ StackReg.af := by decide

theorem witness_InstructionsKeepLowNibbleOfFZero :
    start.f &&& 0x0F = 0 ∧ ∃ t, exec .popAf start = .next t := ⟨by decide, exec_next _ _⟩

/-- The two stack bytes at the ends of work RAM, of OAM, and in high RAM. -/
theorem witness_PopAfterPushReturnsTheValue :
    (isPlain 0xDFFF = true ∧ isPlain 0xDFFE = true) ∧ (isPlain 0x8001 = true ∧ isPlain 0x8000 = true) ∧
      (isPlain 0xFE9F = true ∧ isPlain 0xFE9E = true) ∧ (isPlain 0xFF02 = true ∧ isPlain 0xFF01 = true) ∧
      isPlain (start.sp - 1) = true ∧ isPlain (start.sp - 2) = true ∧ ¬ start.contended (start.sp - 1) ∧
      ¬ start.contended (start.sp - 2) :=
  ⟨by decide, by decide, by decide, by decide, by decide, by decide, free_of_idle _ _ rfl, free_of_idle _ _ rfl⟩

theorem witness_DecimalArithmeticIsExact :
    (99 < 100 ∧ 1 < 100 ∧ ({ start with a := 0x99 } : State).a = byteOf (99 / 10 * 16 + 99 % 10)) ∧
      (0 < 100 ∧ start.a = byteOf (0 / 10 * 16 + 0 % 10)) := by decide

/-- Both sides of the conditional branches. -/
theorem witness_Jumps :
    start.taken .nz = true ∧ start.taken .z = false ∧ start.taken .nc = true ∧ start.taken .c = false ∧
      ({ start with f := 0x90 } : State).taken .z = true ∧ ({ start with f := 0x90 } : State).taken .c = true := by decide

/-- An address of each case of the write decode, at the ends of its range. -/
theorem witness_CpuWriteDecode :
    (0xFF45 : Word) ≠ 0xFF46 ∧ ¬ start.contended 0xFF45 ∧
      ({ start with dmaCountdown := 4, dmaSource := 0xC0 } : State).contended 0xC09F ∧
      ({ start with dmaCountdown := 4, dmaSource := 0xC0 } : State).contended 0xFE00 ∧
      (start.memWrite 0x7FFF 0x12).rawRead 0x7FFF = 0x00 ∧ (start.memWrite 0x8000 0x12).rawRead 0x8000 = 0x12 ∧
      (start.memWrite 0xDFFF 0x12).rawRead 0xDFFF = 0x12 ∧ (start.memWrite 0xE000 0x12).rawRead 0xC000 = 0x12 ∧
      (start.memWrite 0xFDFF 0x12).rawRead 0xDDFF = 0x12 ∧ (start.memWrite 0xFE00 0x12).rawRead 0xFE00 = 0x12 ∧
      (start.memWrite 0xFE9F 0x12).rawRead 0xFE9F = 0x12 ∧ (start.memWrite 0xFEA0 0x12).rawRead 0xFEA0 = 0x00 ∧
      (start.memWrite 0xFEFF 0x12).rawRead 0xFEFF = 0x00 ∧ (start.memWrite 0xFFFF 0x12).rawRead 0xFFFF = 0x12 :=
  ⟨by decide, free_of_idle _ _ rfl, (blocked_iff _ _).1 (by decide), (blocked_iff _ _).1 (by decide), by decide, by decide,
    by decide, by decide, by decide, by decide, by decide, by decide, by decide, by decide⟩

theorem witness_DmaTransfersAtOnce :
    ¬ start.contended 0xFF46 ∧ ¬ (0xFE00 ≤ (0xFDFF : Word).toNat ∧ (0xFDFF : Word).toNat ≤ 0xFE9F) ∧
      ¬ (0xFE00 ≤ (0xFEA0 : Word).toNat ∧ (0xFEA0 : Word).toNat ≤ 0xFE9F) ∧
      ({ start with dmaCountdown := 4, dmaSource := 0xFF } : State).contended 0xFF46 :=
  ⟨free_of_idle _ _ rfl, by decide, by decide, (blocked_iff _ _).1 (by decide)⟩

theorem witness_DmaWindowLasts160Ticks : ({ start with dmaCountdown := 640 } : State).dmaCountdown = 640 := rfl

theorem witness_EnvironmentSlots :
    ((0xFF06 : Word) ≠ 0xFF04 ∧ (0xFF06 : Word) ≠ 0xFF05 ∧ (0xFF06 : Word) ≠ 0xFF0F) ∧
      ¬ (0xFF10 ≤ (0xFF0F : Word).toNat ∧ (0xFF0F : Word).toNat ≤ 0xFF3F) ∧
      ¬ (0xFF10 ≤ (0xFF40 : Word).toNat ∧ (0xFF40 : Word).toNat ≤ 0xFF3F) := by decide

/-- A whole three-byte instruction at PC. -/
theorem witness_StepRunsTheDecodedInstruction :
    ∃ (s t : State) (i : Instr), s.inputs = [] ∧ s.beforeCpu = .next t ∧ t.run = .running ∧ t.cpuCycles ≤ t.master ∧
      i.wellFormed = true ∧ (encode i).length = 3 ∧
      ∀ k, k < (encode i).length → t.memRead (t.pc + BitVec.ofNat 16 k) = (encode i).getD k 0 := by
  refine ⟨State.poke start [(0x0100, 0xC3), (0x0101, 0x50), (0x0102, 0x01)], _, .jpN16 0x0150, rfl, rfl, rfl, ?_, rfl, rfl, ?_⟩
  · decide
  · decide

/-- A panicked machine whose host resets it and presses A and Right: the CPU's slot finds it running, with that input. -/
theorem witness_hostResetAndJoypad :
    ∃ t, ({ start with run := .panic, inputs := [{ host := { reset := true, joypad := some (0xFE, 0xFE) } }] } :
        State).beforeCpu = .next t ∧ t.run = .running ∧ t.joyAction = 0xFE ∧ t.joyDpad = 0xFE ∧ t.inputs = [] :=
  ⟨_, rfl, rfl, rfl, rfl, rfl⟩

theorem witness_CycleGateAndIdleTicks :
    ({ start with run := .panic } : State).run = .panic ∧
      (start.master < ({ start with cpuCycles := 4 } : State).cpuCycles) ∧
      (({ start with run := .halted } : State).run = .halted ∧ start.cpuCycles ≤ start.master) ∧
      ({ start with run := .stopped } : State).run = .stopped := by decide

theorem witness_MasterCountAdvancesByFour :
    (∃ t, step start = .next t) ∧
      (∃ t, step { start with master := 8, inputs := [{ host := { reset := true } }] } = .next t) := by
  refine ⟨step_of_idle _ rfl, ?_⟩
  obtain ⟨t, ht⟩ := step_of_idle ({ start with inputs := [] } : State).explicitReset rfl
  exact ⟨t, ht⟩

/-- Right and left pressed, up and down pressed, and neither. -/
theorem witness_OnlyOpposingDirectionsHaveNoMove :
    step { start with inputs := [{ host := { joypad := some (0xFF, 0xFC) } }] } = .refused .opposingDirections ∧
      step { start with inputs := [{ host := { joypad := some (0xFF, 0xF3) } }] } = .refused .opposingDirections ∧
      dpadValid 0xF5 = true := ⟨rfl, rfl, by decide⟩

theorem witness_PanicLastsUntilReset :
    ({ start with run := .panic } : State).run = .panic ∧ start.input.host.reset = false ∧
      (∃ t, step { start with run := .panic } = .next t) ∧ ([] : List Byte).length < 0x150 ∧
      0x150 ≤ (List.replicate 0x150 (0 : Byte)).length :=
  ⟨rfl, rfl, step_of_idle _ rfl, by decide, le_of_eq List.length_replicate.symm⟩

/-- R554: "no iteration runs" on a cartridge that is too short. -/
theorem test_run_without_cartridge :
    runFromPowerOn {} [] (fun _ => {}) 3 = .notStarted .invalidCartridgeSize := rfl

/-- A host that resets in every iteration. -/
def alwaysResetting : Outside := fun _ => { host := { reset := true } }

/-- `start` with an unused opcode after the NOP at the reset PC: left alone, it panics in its second instruction. -/
def panicsNext : State := State.poke start [(0x0101, 0xD3)]

/-- What every explicit reset of such a run finds: `panicsNext`'s ROM, parameters and joypad. -/
abbrev ResetsAlike (s : State) : Prop :=
  s.mem.filter (fun cell => cell.1 < 0x8000) = [(0x0101, 0xD3)] ∧ s.config = start.config ∧
    s.joyAction = start.joyAction ∧ s.joyDpad = start.joyDpad

theorem stepGiven_of_resetsAlike (s : State) (h : ResetsAlike s) :
    stepGiven (alwaysResetting 0) s = stepGiven (alwaysResetting 0) panicsNext := by
  have he : (s.queued []).explicitReset = (panicsNext.queued []).explicitReset := by
    unfold State.explicitReset State.bootMemory State.queued
    simp only
    rw [h.1, h.2.1, h.2.2.1, h.2.2.2]
    rfl
  exact congrArg (fun r => Result.andThen (Result.andThen (Result.andThen (State.hostJoypad r none)
    (fun t => .next (t.envTimerSlot {}))) State.cpuTick) (fun t => .next (t.afterCpu {}))) he

/-- R429, the third end: what the host does without end keeps the run from ending. -/
theorem test_run_without_end : panicsNext.NonTerminating alwaysResetting := by
  have hreset : ∃ t, stepGiven (alwaysResetting 0) panicsNext = .next t ∧ ResetsAlike t ∧ t.run ≠ .panic :=
    ⟨_, rfl, by decide, by decide⟩
  refine nonTerminating_of_keeps (P := fun s => ResetsAlike s ∧ s.run ≠ .panic) (fun s h => h.2) ?_ (by decide)
  intro n s h
  exact (stepGiven_of_resetsAlike s h.1).symm ▸ hreset

theorem witness_HaltWithInterruptsDisabledHangs :
    start.ime = false ∧ start.input.host.reset = false ∧ (∃ t, step { start with run := .halted } = .next t) ∧
      ∃ t, step { start with run := .stopped } = .next t :=
  ⟨rfl, rfl, step_of_idle _ rfl, step_of_idle _ rfl⟩

theorem witness_RunStateTransitionsAreComplete :
    (∃ t, exec .halt start = .next t) ∧ (∃ t, step { start with run := .panic } = .next t) ∧
      (∃ t, step { start with run := .halted } = .next t) ∧ ∃ t, step { start with run := .stopped } = .next t :=
  ⟨exec_next _ _, step_of_idle _ rfl, step_of_idle _ rfl, step_of_idle _ rfl⟩

theorem witness_OnlyEiDiRetiWriteInterruptEnable :
    (∃ t, exec .ei start = .next t) ∧ (∃ t, exec .reti start = .next t) ∧ (∃ t, exec .di start = .next t) ∧
      (∃ t, exec .prefixCb start = .next t) ∧ Instr.prefixCb ≠ .ei ∧ Instr.prefixCb ≠ .reti ∧ Instr.prefixCb ≠ .di :=
  ⟨exec_next _ _, exec_next _ _, exec_next _ _, exec_next _ _, by decide, by decide, by decide⟩

/-- The highest priority (0), the lowest (4), and each reason for the poll to do nothing. -/
theorem witness_PollTakesTheHighestPriority :
    ((pending 0x1F 0x1F).run ≠ .panic ∧ (pending 0x1F 0x1F).eiLatch = false ∧ (pending 0x1F 0x1F).ime = true ∧
      (pending 0x1F 0x1F).requested 0) ∧
    ((pending 0x10 0x1F).requested 4 ∧ ∀ j, j < 4 → ¬ (pending 0x10 0x1F).requested j) ∧
    (∀ j, j < 5 → ¬ (pending 0xE0 0xFF).requested j) ∧
    ({ start with run := .panic } : State).run = .panic ∧ ({ start with eiLatch := true } : State).eiLatch = true ∧
    start.ime = false := by
  unfold State.requested
  decide

theorem witness_EiIsDelayedByOneInstruction :
    ((State.poke start [(0x0100, 0xFB)]).memRead 0x0100 = 0xFB ∧ start.inputs = [] ∧ start.run = .running ∧
      start.cpuCycles ≤ start.master ∧ ∃ t, step (State.poke start [(0x0100, 0xFB)]) = .next t) ∧
    (start.master < ({ start with eiLatch := true, cpuCycles := 4 } : State).cpuCycles ∧
      ∃ t, step { start with eiLatch := true, cpuCycles := 4 } = .next t) :=
  ⟨⟨by decide, rfl, rfl, by decide, step_of_idle _ rfl⟩, by decide, step_of_idle _ rfl⟩

/-- In the middle of a transfer, in a panic, with a byte of memory listed. -/
theorem witness_EveryStepKeepsTheInvariant :
    ∃ s : State, s.Inv ∧ s.dmaCountdown = 640 ∧ s.run = .panic ∧ s.mem ≠ [] ∧ ∃ t, step s = .next t :=
  ⟨{ start with mem := [(0xFFFF, 0x1F)], dmaCountdown := 640, run := .panic, panicInfo := some ⟨0xD3, false, 0x0100⟩,
                frameSync := 70220, master := 70220 },
    ⟨by decide, by decide, by decide, by decide, by decide, by decide, blankFrame_wf, blankFrame_wf, blankFrame_wf,
      by decide, by decide⟩,
    rfl, rfl, by decide, step_of_idle _ rfl⟩

theorem witness_RomIsNeverWritten :
    (0x0000 : Word).toNat ≤ 0x7FFF ∧ (0x7FFF : Word).toNat ≤ 0x7FFF ∧ ∃ t, step start = .next t :=
  ⟨by decide, by decide, step_of_idle _ rfl⟩

/-- The LCD off, and on with the mode entered (from 1 to 2) and not entered (2 already). -/
theorem witness_PpuTickOnMemory :
    ((State.poke start [(0xFF40, 0x11)]).rawRead 0xFF40).getLsbD 7 = false ∧ (start.rawRead 0xFF40).getLsbD 7 = true ∧
      modeNumber start.frameSync ≠ (start.rawRead 0xFF41).toNat % 4 ∧
      ¬ modeNumber start.frameSync ≠ ((State.poke start [(0xFF41, 0x86)]).rawRead 0xFF41).toNat % 4 := by decide

/-- The four kinds of transition, at the first position of each mode. -/
theorem witness_PpuTickOnFrames :
    (modeNumber 65664 = 1 ∧ (0x80 : Byte).toNat % 4 ≠ 1) ∧ (modeNumber 0 = 2 ∧ (0x81 : Byte).toNat % 4 = 1) ∧
      (modeNumber 80 = 3 ∧ (0x82 : Byte).toNat % 4 ≠ 3) ∧ (modeNumber 252 = 0 ∧ (0x83 : Byte).toNat % 4 ≠ 0) ∧
      (modeNumber 456 = 2 ∧ (0x80 : Byte).toNat % 4 ≠ 1) ∧ (start.rawRead 0xFF40).getLsbD 7 = true := by decide

theorem witness_BackgroundAndWindowPixels :
    (0 < 144 ∧ 143 < 144) ∧ 143 < start.bgIndex.length ∧ 143 < start.back.length ∧ (0 < 160 ∧ 159 < 160) := by
  refine ⟨by decide, ?_, ?_, by decide⟩ <;> simp [start, State.reset, blankFrame]

/-- The object pass gated and not gated, and an object on the line at its first and at its last row. -/
theorem witness_ObjectSelectionAndOrder :
    ((start.config.objEnableGates = true ∧ (start.byteAt 0xFF40).getLsbD 1 = false) ∧
      ((State.poke start [(0xFF40, 0x97)]).byteAt 0xFF40).getLsbD 1 = true ∧
      ((State.poke start [(0xFF40, 0x97)]).byteAt 0xFF40).getLsbD 2 = true) ∧
    (State.poke start [(0xFE00, 16)]).onLine 0 8 0 ∧ (State.poke start [(0xFE00, 16)]).onLine 7 8 0 ∧
      ¬ (State.poke start [(0xFE00, 16)]).onLine 8 8 0 ∧ (State.poke start [(0xFE9C, 16)]).onLine 15 16 39 := by
  unfold State.onLine
  decide

theorem witness_ObjectColumns :
    (0 < 160 ∧ 159 < 160) ∧ (List.replicate 160 (0 : Shade)).length = 160 ∧
      (State.poke start [(0xFE00, 16), (0xFE01, 167)]).onLine 0 8 0 := by
  refine ⟨by decide, by simp, ?_⟩
  unfold State.onLine
  decide

/-- Both ends of the ranges of R69's bytes that are 0x00. -/
theorem witness_ResetValues :
    [0x0000, 0xFEFF, 0xFF03, 0xFF08, 0xFF0E, 0xFF15, 0xFF1F, 0xFF27, 0xFF3F, 0xFF4C, 0xFFFF].all
      (fun a : Nat => a < 0xFF00 || a == 0xFF03 || (0xFF08 ≤ a && a ≤ 0xFF0E) || a == 0xFF15 || a == 0xFF1F ||
        (0xFF27 ≤ a && a ≤ 0xFF3F) || 0xFF4C ≤ a) = true := by decide

theorem witness_PowerOnLoadsTheCartridge :
    (List.replicate 0x14F (0 : Byte)).length < 0x150 ∧ 0x150 ≤ (List.replicate 0x150 (0 : Byte)).length ∧
      start.config = ({} : Config) :=
  ⟨lt_of_eq_of_lt List.length_replicate (by decide), le_of_eq List.length_replicate.symm, rfl⟩

end Sys2Proof.Tests
end

section
/-! The reset state (R67–R69): what its memory reads as, and where the profile `DMG_POST_BOOT` is 0. -/

namespace Sys2Proof.Machine

/-- Nothing is listed at reset, so every address reads as the profile (log entry 1). -/
theorem rawRead_reset (a : Word) : State.reset.rawRead a = initByte a.toNat := rfl

theorem initByte_of_lt {a : Nat} (h : a < 0xFF00) : initByte a = 0 := if_pos h

theorem initByte_of_ge {a : Nat} (h : 0xFF00 ≤ a) : initByte a = postBootIo.getD (a - 0xFF00) 0 :=
  if_neg (Nat.not_lt.mpr h)

/-- The offsets from 0xFF00 that R69's table leaves out, up to its last row. -/
theorem postBootIo_unlisted : ∀ k < 0x4C,
    (k = 0x03 ∨ (0x08 ≤ k ∧ k ≤ 0x0E) ∨ k = 0x15 ∨ k = 0x1F ∨ (0x27 ≤ k ∧ k ≤ 0x3F)) → postBootIo.getD k 0 = 0 := by
  decide

theorem postBootIo_past_end {k : Nat} (h : 0x4C ≤ k) : postBootIo.getD k 0 = 0 :=
  List.getD_eq_default _ _ h

/-- "Every byte 0x00 except the I/O registers" of the table (R69). -/
theorem initByte_unlisted {a : Nat}
    (h : a < 0xFF00 ∨ a = 0xFF03 ∨ (0xFF08 ≤ a ∧ a ≤ 0xFF0E) ∨ a = 0xFF15 ∨ a = 0xFF1F ∨
      (0xFF27 ≤ a ∧ a ≤ 0xFF3F) ∨ 0xFF4C ≤ a) : initByte a = 0 := by
  by_cases hlow : a < 0xFF00
  · exact initByte_of_lt hlow
  · rw [initByte_of_ge (by omega)]
    by_cases hend : 0xFF4C ≤ a
    · exact postBootIo_past_end (by omega)
    · exact postBootIo_unlisted _ (by omega) (by omega)

/-- Settles O59: the fields are those of `State.reset`, its three frames are blank, and its memory reads as the profile. -/
theorem resetValues : Obligations.ResetValues := by
  unfold Obligations.ResetValues
  refine ⟨?registers, ?devices, ?ioLow, ?sound, ?soundControl, ?ppu, ?unlisted, ?outside⟩
  case registers => decide
  case devices =>
    exact ⟨rfl, rfl, rfl, rfl, rfl, blankFrame_wf, blankFrame_wf, blankFrame_wf,
      fun x y => ⟨cell_blankFrame x y, cell_blankFrame x y, cell_blankFrame x y⟩⟩
  case ioLow => decide
  case sound => decide
  case soundControl => decide
  case ppu => decide
  case unlisted => exact fun a h => (rawRead_reset a).trans (initByte_unlisted h)
  case outside => decide

end Sys2Proof.Machine
end

section
/-! Registers and pairs in the numbers of R31. -/

namespace Sys2Proof.Machine

/-- `v[7:0]` as the byte of a number below 256. -/
theorem loByte_eq_byteOf (v : Word) : loByte v = byteOf (v.toNat % 256) := by
  apply BitVec.eq_of_toNat_eq
  simp [loByte, byteOf]

theorem hiByte_eq_byteOf (v : Word) : hiByte v = byteOf (v.toNat / 256) := rfl

/-- What is read of any register after a write of one (R30). -/
theorem reg8_setReg8_eq (s : State) (r q : Reg8) (v : Byte) :
    (s.setReg8 r v).reg8 q = if q = r then v else s.reg8 q := by
  split
  · next h => rw [h, reg8_setReg8]
  · next h => exact reg8_setReg8_ne s h v

/-- A write of a register leaves everything but the seven registers. -/
theorem setReg8_frame (s : State) (r : Reg8) (v : Byte) :
    s.setReg8 r v =
      { s with a := (s.setReg8 r v).a, b := (s.setReg8 r v).b, c := (s.setReg8 r v).c, d := (s.setReg8 r v).d,
               e := (s.setReg8 r v).e, h := (s.setReg8 r v).h, l := (s.setReg8 r v).l } := by
  cases r <;> rfl

theorem setReg16_bc (s : State) (w : Word) :
    s.setReg16 .bc w = { s with b := byteOf (w.toNat / 256), c := byteOf (w.toNat % 256) } := by
  rw [← hiByte_eq_byteOf, ← loByte_eq_byteOf, State.setReg16]

theorem setReg16_de (s : State) (w : Word) :
    s.setReg16 .de w = { s with d := byteOf (w.toNat / 256), e := byteOf (w.toNat % 256) } := by
  rw [← hiByte_eq_byteOf, ← loByte_eq_byteOf, State.setReg16]

theorem setReg16_hl (s : State) (w : Word) :
    s.setReg16 .hl w = { s with h := byteOf (w.toNat / 256), l := byteOf (w.toNat % 256) } := by
  rw [← hiByte_eq_byteOf, ← loByte_eq_byteOf, State.setReg16, State.setHl]

/-- A write of AF masks F (R32). -/
theorem setStackReg_af (s : State) (w : Word) :
    s.setStackReg .af w = { s with a := byteOf (w.toNat / 256), f := byteOf (w.toNat % 256) &&& 0xF0 } := by
  rw [← hiByte_eq_byteOf, ← loByte_eq_byteOf, State.setStackReg, State.writeF]

/-- Settles O5: the reads and writes name their registers, and a pair is its two bytes, high byte first. -/
theorem registersAndPairs : Obligations.RegistersAndPairs := by
  unfold Obligations.RegistersAndPairs
  intro s v w
  refine ⟨fun r q => reg8_setReg8_eq s r q v, fun r => setReg8_frame s r v, ?reads, ?pairs, ?writes, ?stackPairs⟩
  case reads => exact ⟨rfl, rfl, rfl, rfl, rfl, rfl, rfl, fun _ => rfl, rfl⟩
  case pairs => exact ⟨toNat_wordOf s.b s.c, toNat_wordOf s.d s.e, toNat_wordOf s.h s.l, rfl, toNat_wordOf s.a _⟩
  case writes => exact ⟨setReg16_bc s w, setReg16_de s w, setReg16_hl s w, rfl, setStackReg_af s w⟩
  case stackPairs =>
    intro p hp
    cases p with
    | bc => rfl
    | de => rfl
    | hl => rfl
    | af => exact absurd rfl hp

end Sys2Proof.Machine
end

section
/-! The invariant of the state: every move a step is made of keeps it, and so does the host's reset. -/

namespace Sys2Proof.Machine

/-- Settles O52: memory is empty, the frames are blank, and every counter is 0. -/
theorem resetMeetsTheInvariant : Obligations.ResetMeetsTheInvariant := by
  unfold Obligations.ResetMeetsTheInvariant
  exact
    { mem := Memory.wf_nil
      initMem := Memory.wf_nil
      f := by decide
      frameSync := by decide
      master := by decide
      dma := by decide
      bgIndex := blankFrame_wf
      back := blankFrame_wf
      front := blankFrame_wf
      panic := by decide
      joypad := by decide }

/-- The byte of F that R552 gives has a zero low nibble. -/
theorem resetF_lowNibble (m : Memory) : resetF m &&& 0x0F = 0 := by
  unfold resetF
  split <;> decide

/-- An explicit reset keeps the invariant: the rest of the reset state stands over the memory after the cartridge is
loaded, beside the parameters and the joypad as they were (R550). -/
theorem State.Inv.explicitReset {s : State} (h : s.Inv) : s.explicitReset.Inv :=
  { resetMeetsTheInvariant with
    mem := wf_bootMemory h.mem h.initMem
    initMem := h.initMem
    f := resetF_lowNibble s.bootMemory
    joypad := h.joypad }

theorem State.Inv.setReg8 {s : State} (r : Reg8) (v : Byte) (h : s.Inv) : (s.setReg8 r v).Inv := by
  cases r <;> exact { h with }

/-- Outside PANIC nothing is recorded. -/
theorem State.Inv.panicInfo_eq_none {s : State} (h : s.Inv) (hr : s.run ≠ .panic) : s.panicInfo = none := by
  simpa using mt h.panic.2 hr

/-- Between two run states that are not PANIC, the invariant does not see which. -/
theorem State.Inv.withRun {s : State} {r : RunState} (h : s.Inv) (hs : s.run ≠ .panic) (hr : r ≠ .panic) :
    ({ s with run := r } : State).Inv :=
  { h with panic := by simp [hr, h.panicInfo_eq_none hs] }

/-- The next position in the frame (R501). -/
theorem frameSync_advance {n : Nat} (h : n % 4 = 0) : (n + 4) % 70224 < 70224 ∧ (n + 4) % 70224 % 4 = 0 := by
  omega

/-- A countdown in progress is at least 4, so a tick of the MMU does not take it below 0 (R118). -/
theorem dmaCountdown_tick {n : Int} (hpos : 0 < n) (h : 0 ≤ n ∧ n ≤ 640 ∧ n % 4 = 0) :
    0 ≤ n - 4 ∧ n - 4 ≤ 640 ∧ (n - 4) % 4 = 0 := by
  omega

theorem inv_busClosed : BusClosed State.Inv where
  raw _ a v _ h := { h with mem := wf_rawWrite a v h.mem }
  dmaSource _ _ h := { h with }
  dmaStart _ h := { h with dma := by simp }
  lengths _ _ h := { h with }

theorem inv_cpuClosed : CpuClosed State.Inv where
  __ := inv_busClosed
  reg _ r v h := h.setReg8 r v
  f _ _ hv h := { h with f := hv }
  sp _ _ h := { h with }
  pc _ _ h := { h with }
  ime _ _ h := { h with }
  latch _ _ h := { h with }
  cycles _ _ h := { h with }

theorem inv_ppuClosed : PpuClosed State.Inv where
  raw := inv_busClosed.raw
  frameZero _ h := { h with frameSync := by simp }
  frameAdvance _ h := { h with frameSync := frameSync_advance h.frameSync.2 }
  window _ _ h := { h with }
  bgLine _ ly _ hl h := { h with bgIndex := Frame.wf_set ly h.bgIndex (.inl hl) }
  backLine _ ly _ hl h := { h with back := Frame.wf_set ly h.back hl }
  backBlank _ h := { h with back := blankFrame_wf }
  front _ h := { h with front := h.back }

theorem inv_slotClosed : SlotClosed State.Inv where
  __ := inv_cpuClosed
  __ := inv_ppuClosed
  halt _ hr h := h.withRun (by simp [hr]) (by decide)
  stop _ hr h := h.withRun (by simp [hr]) (by decide)
  panic _ _ _ h := { h with panic := by simp }
  wake _ hr h := h.withRun hr (by decide)
  dmaTick _ hpos h := { h with dma := dmaCountdown_tick hpos h.dma }
  joypad _ _ _ hd h := { h with joypad := hd }
  dropInput _ h := { h with }

theorem inv_stepClosed : StepClosed State.Inv where
  __ := inv_slotClosed
  master s h := { h with master := (Nat.add_mod_right s.master 4).trans h.master }

/-- Settles O51: the moves of a step keep the invariant, and so does the reset where the host asks for one. -/
theorem everyStepKeepsTheInvariant : Obligations.EveryStepKeepsTheInvariant := by
  unfold Obligations.EveryStepKeepsTheInvariant
  intro s t h hstep
  exact step_closed inv_stepClosed (fun _ _ _ hu => hu.explicitReset) h hstep

end Sys2Proof.Machine
end

section
/-! F's low nibble (R32): no move of an instruction sets a bit of it. -/

namespace Sys2Proof.Machine

/-- A zero low nibble of F is kept by every move of an instruction. -/
theorem lowNibble_cpuClosed : CpuClosed (fun s => s.f &&& 0x0F = 0) where
  raw _ _ _ _ h := h
  dmaSource _ _ h := h
  dmaStart _ h := h
  lengths _ _ h := h
  reg s r v h := by rw [setReg8_f]; exact h
  f _ _ hv _ := hv
  sp _ _ h := h
  pc _ _ h := h
  ime _ _ h := h
  latch _ _ h := h
  cycles _ _ h := h

/-- Settles O6: the moves of an instruction write F only with a zero low nibble; halting, stopping and the panic leave F. -/
theorem instructionsKeepLowNibbleOfFZero : Obligations.InstructionsKeepLowNibbleOfFZero := by
  unfold Obligations.InstructionsKeepLowNibbleOfFZero
  intro i s t h he
  obtain ht | ⟨-, rfl⟩ | ⟨-, rfl⟩ | ⟨u, -, rfl⟩ := exec_cases lowNibble_cpuClosed i h he
  · exact ht
  · exact h
  · exact h
  · exact h

end Sys2Proof.Machine
end

section
/-! The DMA window (R45, R118): the countdown after any number of ticks of the MMU. -/

namespace Sys2Proof.Machine

/-- `k` ticks of the MMU from the start of a transfer: the countdown falls by 4 a tick down to 0, where it stays (R118). -/
theorem mmuTick_iterate {s : State} (h : s.dmaCountdown = 640) (k : Nat) :
    State.mmuTick^[k] s = { s with dmaCountdown := 640 - 4 * (min k 160 : Nat) } := by
  induction k with
  | zero => simp [← h]
  | succ k ih =>
    rw [Function.iterate_succ_apply', ih, State.mmuTick]
    by_cases hk : k < 160
    · have hpos : (0 : Int) < 640 - 4 * (min k 160 : Nat) := by omega
      have hnext : (640 : Int) - 4 * (min k 160 : Nat) - 4 = 640 - 4 * (min (k + 1) 160 : Nat) := by omega
      rw [if_pos hpos, hnext]
    · have hstay : min (k + 1) 160 = min k 160 := by omega
      have hzero : ¬ (0 : Int) < 640 - 4 * (min k 160 : Nat) := by omega
      rw [if_neg hzero, hstay]

/-- Settles O39: by the state after `k` ticks; its countdown is positive exactly for `k < 160`. -/
theorem dmaWindowLasts160Ticks : Obligations.DmaWindowLasts160Ticks := by
  unfold Obligations.DmaWindowLasts160Ticks
  intro s k h
  rw [mmuTick_iterate h k]
  refine ⟨rfl, ?active, rfl⟩
  case active =>
    rw [State.dmaActive, decide_eq_true_iff]
    dsimp only
    omega

end Sys2Proof.Machine
end

section
/-! Who writes IME and the EI latch (R39, R40): an instruction other than EI, RETI and DI leaves both. -/

namespace Sys2Proof.Machine

/-- What decides whether the poll may dispatch an interrupt: IME and the EI latch (R39, R40). -/
def State.interruptEnable (s : State) : Bool × Bool := (s.ime, s.eiLatch)

section

variable (s : State)

theorem interruptEnable_eq_iff (t : State) :
    t.interruptEnable = s.interruptEnable ↔ t.ime = s.ime ∧ t.eiLatch = s.eiLatch := Prod.mk_inj

@[simp] theorem setReg8_interruptEnable (r : Reg8) (v : Byte) : (s.setReg8 r v).interruptEnable = s.interruptEnable := by
  cases r <;> rfl

@[simp] theorem setReg16_interruptEnable (p : Reg16) (v : Word) :
    (s.setReg16 p v).interruptEnable = s.interruptEnable := by
  cases p <;> rfl

@[simp] theorem setStackReg_interruptEnable (p : StackReg) (v : Word) :
    (s.setStackReg p v).interruptEnable = s.interruptEnable := by
  cases p <;> rfl

@[simp] theorem setAccumulator_interruptEnable (r : Byte × Flags) :
    (s.setAccumulator r).interruptEnable = s.interruptEnable := rfl

@[simp] theorem memWrite_interruptEnable (a : Word) (v : Byte) :
    (s.memWrite a v).interruptEnable = s.interruptEnable := by
  rw [memWrite_eq]; rfl

@[simp] theorem memWrite16_interruptEnable (a v : Word) : (s.memWrite16 a v).interruptEnable = s.interruptEnable := by
  simp [State.memWrite16]

@[simp] theorem push16_interruptEnable (v : Word) : (s.push16 v).interruptEnable = s.interruptEnable := by
  simp [interruptEnable_eq_iff]

@[simp] theorem setOperand8_interruptEnable (o : Operand8) (v : Byte) :
    (s.setOperand8 o v).interruptEnable = s.interruptEnable := by
  cases o
  · exact setReg8_interruptEnable s _ v
  · exact memWrite_interruptEnable s _ v

@[simp] theorem memRegAfter_interruptEnable (p : MemReg) : (s.memRegAfter p).interruptEnable = s.interruptEnable := by
  cases p <;> rfl

@[simp] theorem callTo_interruptEnable (a : Word) : (callTo a s).interruptEnable = s.interruptEnable :=
  push16_interruptEnable s s.pc

theorem branchIf_interruptEnable (cc : Cond) (n : Nat) {branch : State → State}
    (h : (branch s).interruptEnable = s.interruptEnable) :
    (branchIf cc n branch s).interruptEnable = s.interruptEnable := by
  unfold branchIf
  split
  · exact h
  · rfl

@[simp] theorem extOperation_interruptEnable (op2 : Byte) :
    (extOperation op2 s).interruptEnable = s.interruptEnable := by
  unfold extOperation
  generalize fieldX op2 = x
  fin_cases x
  · exact setOperand8_interruptEnable s _ _
  · rfl
  · exact setOperand8_interruptEnable s _ _
  · exact setOperand8_interruptEnable s _ _

end

/-- Every instruction but EI, RETI and DI leaves IME and the latch. -/
theorem exec_interruptEnable (i : Instr) {s t : State} (hei : i ≠ .ei) (hreti : i ≠ .reti) (hdi : i ≠ .di)
    (he : exec i s = .next t) : t.interruptEnable = s.interruptEnable := by
  have key : ∀ {n : Nat} {u : State}, exec i s = complete n u → u.interruptEnable = s.interruptEnable →
      t.interruptEnable = s.interruptEnable := by
    intro n u e hu
    have ht : u.charge n = t := Host.Outcome.next.inj (e.symm.trans he)
    exact ht ▸ hu
  induction i using Instr.byRow with
  | ei => exact absurd rfl hei
  | reti => exact absurd rfl hreti
  | di => exact absurd rfl hdi
  | unused u => exact Host.Outcome.next.inj ((exec_unused u s).symm.trans he) ▸ rfl
  | ldPairN16 p n => exact key (exec_ldPairN16 p n s) (setReg16_interruptEnable _ _ _)
  | ldAtMemA p =>
    exact key (exec_ldAtMemA p s) ((memRegAfter_interruptEnable _ _).trans (memWrite_interruptEnable _ _ _))
  | inc16 p => exact key (exec_inc16 p s) (setReg16_interruptEnable _ _ _)
  | inc8 o => exact key (exec_inc8 o s) (setOperand8_interruptEnable _ _ _)
  | dec8 o => exact key (exec_dec8 o s) (setOperand8_interruptEnable _ _ _)
  | ldRegN8 r n => exact key (exec_ldRegN8 r n s) (setReg8_interruptEnable _ _ _)
  | ldAtN16Sp n => exact key (exec_ldAtN16Sp n s) (memWrite16_interruptEnable _ _ _)
  | addHl p => exact key (exec_addHl p s) rfl
  | ldAAtMem p => exact key (exec_ldAAtMem p s) (memRegAfter_interruptEnable _ _)
  | dec16 p => exact key (exec_dec16 p s) (setReg16_interruptEnable _ _ _)
  | jrCond cc e => exact key (exec_jrCond cc e s) (branchIf_interruptEnable _ _ _ rfl)
  | ldAtHlN8 n => exact key (exec_ldAtHlN8 n s) (memWrite_interruptEnable _ _ _)
  | ldRegReg dst src => exact key (exec_ldRegReg dst src s) (setReg8_interruptEnable _ _ _)
  | ldRegAtHl r => exact key (exec_ldRegAtHl r s) (setReg8_interruptEnable _ _ _)
  | ldAtHlReg r => exact key (exec_ldAtHlReg r s) (memWrite_interruptEnable _ _ _)
  | alu op o => exact key (exec_alu op o s) rfl
  | retCond cc => exact key (exec_retCond cc s) (branchIf_interruptEnable _ _ _ rfl)
  | pop p => exact key (exec_pop p s) (setStackReg_interruptEnable _ _ _)
  | jpCond cc n => exact key (exec_jpCond cc n s) (branchIf_interruptEnable _ _ _ rfl)
  | callCond cc n =>
    exact key (exec_callCond cc n s) (branchIf_interruptEnable _ _ _ (callTo_interruptEnable _ _))
  | push p => exact key (exec_push p s) (push16_interruptEnable _ _)
  | aluN8 op n => exact key (exec_aluN8 op n s) rfl
  | rst y => exact key (exec_rst y s) (callTo_interruptEnable _ _)
  | prefixCb => exact key rfl (extOperation_interruptEnable _ _)
  | callN16 n => exact key rfl (callTo_interruptEnable _ _)
  | ldhAtA8A a => exact key rfl (memWrite_interruptEnable _ _ _)
  | ldAtCA => exact key rfl (memWrite_interruptEnable _ _ _)
  | ldAtN16A n => exact key rfl (memWrite_interruptEnable _ _ _)
  | shift op o => exact key (exec_shift op o s) (setOperand8_interruptEnable _ _ _)
  | bit b o => exact key (exec_bit b o s) rfl
  | res b o => exact key (exec_res b o s) (setOperand8_interruptEnable _ _ _)
  | set b o => exact key (exec_set b o s) (setOperand8_interruptEnable _ _ _)
  | _ => exact key rfl rfl

/-- Settles O48: EI, RETI and DI by what they answer, every other instruction by `exec_interruptEnable`. -/
theorem onlyEiDiRetiWriteInterruptEnable : Obligations.OnlyEiDiRetiWriteInterruptEnable := by
  unfold Obligations.OnlyEiDiRetiWriteInterruptEnable
  intro i s t he
  have other (hei : i ≠ .ei) (hreti : i ≠ .reti) (hdi : i ≠ .di) : t.ime = s.ime ∧ t.eiLatch = s.eiLatch :=
    (interruptEnable_eq_iff s t).1 (exec_interruptEnable i hei hreti hdi he)
  refine ⟨?ei, ?reti, ?di, fun hei hreti hdi => (other hei hreti hdi).1, ?latch⟩
  case ei => rintro rfl; exact Host.Outcome.next.inj he ▸ ⟨rfl, rfl⟩
  case reti => rintro rfl; exact Host.Outcome.next.inj he ▸ rfl
  case di => rintro rfl; exact Host.Outcome.next.inj he ▸ rfl
  case latch =>
    intro hei
    by_cases hreti : i = .reti
    · subst hreti; exact Host.Outcome.next.inj he ▸ rfl
    · by_cases hdi : i = .di
      · subst hdi; exact Host.Outcome.next.inj he ▸ rfl
      · exact (other hei hreti hdi).2

end Sys2Proof.Machine
end

section
/-! The run state (R38): what each slot of a step makes of it. -/

namespace Sys2Proof.Machine

/-- The run state is kept by every move of an instruction but halting, stopping and the panic. -/
theorem run_cpuClosed (r : RunState) : CpuClosed (fun s => s.run = r) where
  raw _ _ _ _ h := h
  dmaSource _ _ h := h
  dmaStart _ h := h
  lengths _ _ h := h
  reg s q v h := (setReg8_run s q v).trans h
  f _ _ _ h := h
  sp _ _ h := h
  pc _ _ h := h
  ime _ _ h := h
  latch _ _ h := h
  cycles _ _ h := h

theorem exec_run {i : Instr} {s t : State} (he : exec i s = .next t) :
    t.run = s.run ∨ (i = .halt ∧ t.run = .halted) ∨ ((∃ n, i = .stop n) ∧ t.run = .stopped) ∨
      ((∃ u, i = Row.unused u) ∧ t.run = .panic) := by
  obtain ht | ⟨hi, rfl⟩ | ⟨hi, rfl⟩ | ⟨u, hi, rfl⟩ := exec_cases (run_cpuClosed s.run) i rfl he
  · exact .inl ht
  · exact .inr (.inl ⟨hi, rfl⟩)
  · exact .inr (.inr (.inl ⟨hi, rfl⟩))
  · exact .inr (.inr (.inr ⟨⟨u, hi⟩, rfl⟩))

/-- Taking an interrupt makes the CPU run (R460). -/
@[simp] theorem takeInterrupt_run (s : State) (i : Nat) : (s.takeInterrupt i).run = .running := rfl

theorem poll_run (s : State) : s.poll.run = s.run ∨ (s.run ≠ .panic ∧ s.poll.run = .running) := by
  unfold State.poll
  split_ifs with hpanic hlatch hime
  · exact .inl rfl
  · exact .inl rfl
  · exact .inl rfl
  · split
    · exact .inr ⟨hpanic, takeInterrupt_run s _⟩
    · exact .inl rfl

/-- `t` is `s` but for the array. -/
def State.SameButMem (s t : State) : Prop := t = { s with mem := t.mem }

section

variable {s t : State}

theorem State.SameButMem.rawWrite (h : s.SameButMem t) (a : Word) (v : Byte) : s.SameButMem (t.rawWrite a v) := by
  unfold State.SameButMem at *
  rw [h]
  rfl

theorem State.SameButMem.rawWriteIfSome (h : s.SameButMem t) (a : Word) (v : Option Byte) :
    s.SameButMem (t.rawWriteIfSome a v) := by
  cases v
  · exact h
  · exact h.rawWrite _ _

theorem State.SameButMem.setIfWhen (h : s.SameButMem t) (raised : Bool) (i : Nat) :
    s.SameButMem (t.setIfWhen raised i) := by
  cases raised
  · exact h
  · exact h.rawWrite _ _

end

theorem State.SameButMem.refl (s : State) : s.SameButMem s := rfl

/-- The Timer slot changes memory alone (R421). -/
theorem envTimerSlot_eq (s : State) (d : TimerDraw) : s.envTimerSlot d = { s with mem := (s.envTimerSlot d).mem } :=
  (((((State.SameButMem.refl s).rawWriteIfSome 0xFF04 d.div).rawWriteIfSome 0xFF05 d.tima).setIfWhen d.timerIrq 2).setIfWhen
    d.serialIrq 3).setIfWhen d.joypadIrq 4

/-- The APU slot changes memory and the length timers alone (R424). -/
theorem envApuSlot_eq (s : State) (d : ApuDraw) :
    s.envApuSlot d = { s with mem := (s.envApuSlot d).mem, lengthTimer := (s.envApuSlot d).lengthTimer } := by
  have hwritten : s.SameButMem (d.sound.foldl State.writeSound s) :=
    List.foldlRecOn d.sound State.writeSound (State.SameButMem.refl s) (fun _ ht w _ => ht.rawWrite _ w.2)
  unfold State.envApuSlot
  rw [hwritten]

/-- Before the CPU's slot only the host's reset changes the run state. -/
theorem beforeCpu_run {s t : State} (hreset : s.input.host.reset = false) (he : s.beforeCpu = .next t) :
    t.run = s.run := by
  have hslot (u : State) : (u.envTimerSlot s.input.timer).run = u.run := by rw [envTimerSlot_eq]
  unfold State.beforeCpu State.hostSlot State.hostReset State.hostJoypad at he
  rw [hreset, if_neg Bool.false_ne_true] at he
  split at he
  · exact Host.Outcome.next.inj he ▸ hslot _
  · split at he
    · exact Host.Outcome.next.inj he ▸ hslot _
    · cases he

/-- A CPU that is not running executes nothing (R411, R419). -/
theorem cpuTick_run {s t : State} (hr : s.run ≠ .running) (he : s.cpuTick = .next t) : t.run = s.run := by
  unfold State.cpuTick at he
  rw [if_neg hr] at he
  split_ifs at he
  · exact Host.Outcome.next.inj he ▸ rfl
  · exact Host.Outcome.next.inj he ▸ rfl
  · obtain rfl := Host.Outcome.next.inj he
    unfold State.idleTick
    split <;> rfl

/-- After the CPU's slot only the poll changes the run state. -/
theorem afterCpu_run (s : State) (apu : ApuDraw) :
    (s.afterCpu apu).run = s.run ∨ (s.run ≠ .panic ∧ (s.afterCpu apu).run = .running) := by
  have hslots : ((s.mmuTick.ppuTick).envApuSlot apu).run = s.run := by rw [envApuSlot_eq, ppuTick_eq, mmuTick_eq]
  have hpoll := poll_run ((s.mmuTick.ppuTick).envApuSlot apu)
  rwa [hslots] at hpoll

/-- A step without a reset, of a CPU that is not running, keeps the run state or, out of HALTED or STOPPED, wakes it. -/
theorem step_run {s t : State} (hreset : s.input.host.reset = false) (hr : s.run ≠ .running) (he : step s = .next t) :
    t.run = s.run ∨ (s.run ≠ .panic ∧ t.run = .running) := by
  obtain ⟨u, v, hb, hc, rfl⟩ := step_parts he
  have hu : u.run = s.run := beforeCpu_run hreset hb
  have hv : v.run = s.run := (cpuTick_run (hu ▸ hr) hc).trans hu
  exact hv ▸ afterCpu_run v s.input.apu

/-- Settles O47, by the run state after an instruction, after the poll, and after a step of a CPU that is not running. -/
theorem runStateTransitionsAreComplete : Obligations.RunStateTransitionsAreComplete := by
  unfold Obligations.RunStateTransitionsAreComplete
  refine ⟨fun i s t he => exec_run he, poll_run, ?step⟩
  intro s t hreset he
  have hrun (hr : s.run ≠ .running) := step_run hreset hr he
  refine ⟨fun hs => ?panic, fun hs => ?halted, fun hs => ?stopped⟩
  case panic => simpa [hs] using hrun
  case halted => simpa [hs] using hrun
  case stopped => simpa [hs] using hrun

end Sys2Proof.Machine
end

section
/-! ROM (R114, R126): no move of a step reaches a byte of it. -/

namespace Sys2Proof.Machine

section

variable {a : Word} {v : Byte}

/-- A raw write above ROM leaves a byte of ROM. -/
theorem rawRead_rawWrite_rom (ha : a.toNat ≤ 0x7FFF) (s : State) {b : Word} (w : Byte) (hb : 0x8000#16 ≤ b) :
    (s.rawWrite b w).rawRead a = s.rawRead a := by
  refine rawRead_rawWrite_other s w ?ne
  rintro rfl
  have hhigh : 0x8000 ≤ a.toNat := hb
  omega

/-- The host's reset keeps the ROM area, which stands for the cartridge (R550, log entry 13). -/
theorem rawRead_explicitReset_rom (ha : a.toNat ≤ 0x7FFF) (s : State) : s.explicitReset.rawRead a = s.rawRead a :=
  read_bootMemory_rom s (by omega)

/-- Every move of a step keeps what a byte of ROM reads as: a raw write goes above ROM, no other move writes memory. -/
theorem rom_stepClosed (ha : a.toNat ≤ 0x7FFF) : StepClosed (fun s => s.rawRead a = v) where
  raw s _ w hb h := (rawRead_rawWrite_rom ha s w hb).trans h
  dmaSource _ _ h := h
  dmaStart _ h := h
  lengths _ _ h := h
  reg s r w h := (congrArg (Memory.read · a.toNat) (setReg8_mem s r w)).trans h
  f _ _ _ h := h
  sp _ _ h := h
  pc _ _ h := h
  ime _ _ h := h
  latch _ _ h := h
  cycles _ _ h := h
  frameZero _ h := h
  frameAdvance _ h := h
  window _ _ h := h
  bgLine _ _ _ _ h := h
  backLine _ _ _ _ h := h
  backBlank _ h := h
  front _ h := h
  halt _ _ h := h
  stop _ _ h := h
  panic _ _ _ h := h
  wake _ _ h := h
  dmaTick _ _ h := h
  joypad _ _ _ _ h := h
  dropInput _ h := h
  master _ h := h

end

/-- Settles O53: the moves of a step keep a byte of ROM, and so does the reset where the host asks for one. -/
theorem romIsNeverWritten : Obligations.RomIsNeverWritten := by
  unfold Obligations.RomIsNeverWritten
  intro s t a ha hstep
  exact step_closed (rom_stepClosed ha) (fun _ u _ hu => (rawRead_explicitReset_rom ha u).trans hu) rfl hstep

end Sys2Proof.Machine
end

section
/-! The read decode of the bus (R102) in the numbers of its address ranges. -/

namespace Sys2Proof.Machine

/-- In the echo, the address 0x2000 lower does not wrap (R112). -/
theorem mirrored_eq_ofNat {a : Word} (h : 0xE000 ≤ a.toNat) : mirrored a = BitVec.ofNat 16 (a.toNat - 0x2000) := by
  unfold mirrored
  bv_omega

/-- Under the mask of the low nibble, a group that is not selected reads as all ones (R105). -/
theorem lowNibble_group (unselected : Bool) (group : Byte) :
    0x0F &&& (if unselected then 0x0F#8 else group) = 0x0F &&& (if unselected = false then group else 0xFF) := by
  cases unselected
  · rfl
  · simp

/-- The joypad byte, with a group that is not selected as all ones (R105). -/
theorem joypadRead_eq (s : State) :
    s.joypadRead = (s.rawRead 0xFF00 &&& 0xF0) |||
      (0x0F &&& (if (s.rawRead 0xFF00).getLsbD 5 = false then s.joyAction else 0xFF) &&&
        (if (s.rawRead 0xFF00).getLsbD 4 = false then s.joyDpad else 0xFF)) := by
  unfold State.joypadRead
  dsimp only
  rw [lowNibble_group, BitVec.and_assoc, BitVec.and_comm (ite ..), ← BitVec.and_assoc, lowNibble_group, BitVec.and_assoc,
    BitVec.and_comm (ite ..), ← BitVec.and_assoc]

/-- The read decode without contention, with the address ranges as numbers (R102, R112, R113). -/
theorem decodedRead_eq (s : State) (a : Word) :
    s.decodedRead a =
      if a = 0xFF00 then s.joypadRead
      else if a = 0xFF41 then s.rawRead 0xFF41 ||| 0x80
      else if 0xE000 ≤ a.toNat ∧ a.toNat ≤ 0xFDFF then s.rawRead (BitVec.ofNat 16 (a.toNat - 0x2000))
      else if 0xFEA0 ≤ a.toNat ∧ a.toNat ≤ 0xFEFF then 0x00
      else s.rawRead a := by
  unfold State.decodedRead
  refine if_congr Iff.rfl rfl (if_congr Iff.rfl rfl ?_)
  by_cases he : 0xE000 ≤ a.toNat ∧ a.toNat ≤ 0xFDFF
  · rw [if_pos he, ← mirrored_eq_ofNat he.1]
    exact if_pos he
  · rw [if_neg he]
    exact if_neg he

/-- Settles O36: a blocked address reads 0xFF, any other as the decode gives it. -/
theorem cpuReadDecode : Obligations.CpuReadDecode := by
  unfold Obligations.CpuReadDecode
  intro s a
  by_cases hc : s.contended a
  · rw [memRead_blocked s ((blocked_iff s a).2 hc), if_pos hc]
  · rw [memRead_free s ((blocked_eq_false_iff s a).2 hc), if_neg hc, decodedRead_eq, joypadRead_eq]

end Sys2Proof.Machine
end

section
/-! The write decode of the bus (R103), one equation per kind of address, and what it makes of every byte. -/

namespace Sys2Proof.Machine

theorem isLengthRegister_iff (a : Word) :
    isLengthRegister a = true ↔ a = 0xFF11 ∨ a = 0xFF16 ∨ a = 0xFF1B ∨ a = 0xFF20 := by
  simp [isLengthRegister, or_assoc]

section

variable {s : State} (v : Byte)

/-- A write of the joypad register writes its select bits alone (R106). -/
theorem memWrite_joypad (hfree : ¬ s.blocked 0xFF00) :
    s.memWrite 0xFF00 v = s.rawWrite 0xFF00 ((s.rawRead 0xFF00 &&& 0xCF) ||| (v &&& 0x30)) :=
  if_neg hfree

/-- A write of STAT keeps the mode and the coincidence bit (R107). -/
theorem memWrite_stat (hfree : ¬ s.blocked 0xFF41) :
    s.memWrite 0xFF41 v = s.rawWrite 0xFF41 ((s.rawRead 0xFF41 &&& 0x07) ||| (v &&& 0xF8)) :=
  if_neg hfree

/-- A write of the DMA register is stored and starts the transfer (R108). -/
theorem memWrite_dmaRegister (hfree : ¬ s.blocked 0xFF46) :
    s.memWrite 0xFF46 v = (s.rawWrite 0xFF46 v).startDma v :=
  if_neg hfree

/-- A write of DIV clears it (R109). -/
theorem memWrite_div (hfree : ¬ s.blocked 0xFF04) : s.memWrite 0xFF04 v = s.rawWrite 0xFF04 0x00 :=
  if_neg hfree

/-- A write of LYC recomputes the coincidence bit (R110). -/
theorem memWrite_lyc (hfree : ¬ s.blocked 0xFF45) : s.memWrite 0xFF45 v = (s.rawWrite 0xFF45 v).coincidenceRecheck :=
  if_neg hfree

variable {a : Word}

/-- A write of a length register is stored and reloads the channel's timer (R111). -/
theorem memWrite_length (hfree : ¬ s.blocked a) (ha : isLengthRegister a = true) :
    s.memWrite a v = (s.rawWrite a v).reloadLength a v := by
  obtain rfl | rfl | rfl | rfl := (isLengthRegister_iff a).1 ha
  all_goals exact if_neg hfree

/-- A write of an address that is no register of its own: into the mirrored byte in the echo, dropped in the prohibited
area and in ROM, else stored (R112–R115). -/
theorem memWrite_range (hfree : ¬ s.blocked a) (h00 : a ≠ 0xFF00) (h41 : a ≠ 0xFF41) (h46 : a ≠ 0xFF46)
    (h04 : a ≠ 0xFF04) (h45 : a ≠ 0xFF45) (hl : ¬ isLengthRegister a = true) :
    s.memWrite a v =
      if 0xE000 ≤ a.toNat ∧ a.toNat ≤ 0xFDFF then s.rawWrite (BitVec.ofNat 16 (a.toNat - 0x2000)) v
      else if (0xFEA0 ≤ a.toNat ∧ a.toNat ≤ 0xFEFF) ∨ a.toNat ≤ 0x7FFF then s
      else s.rawWrite a v := by
  rw [isLengthRegister_iff] at hl
  unfold State.memWrite
  rw [if_neg hfree, if_neg h00, if_neg h41, if_neg h46, if_neg h04, if_neg h45, if_neg hl, ite_or]
  by_cases he : 0xE000 ≤ a.toNat ∧ a.toNat ≤ 0xFDFF
  · rw [if_pos he, ← mirrored_eq_ofNat he.1]
    exact if_pos he
  · rw [if_neg he]
    exact if_neg he

/-- The length registers lie above the prohibited area. -/
theorem isLengthRegister_high (hl : isLengthRegister a = true) : 0xFF00 ≤ a.toNat := by
  obtain rfl | rfl | rfl | rfl := (isLengthRegister_iff a).1 hl
  all_goals decide

/-- What a byte is after a write of an address whose byte is stored as it comes or not at all (R111–R115). -/
theorem rawRead_memWrite_range (hfree : ¬ s.blocked a) (h00 : a ≠ 0xFF00) (h41 : a ≠ 0xFF41) (h46 : a ≠ 0xFF46)
    (h04 : a ≠ 0xFF04) (h45 : a ≠ 0xFF45) (b : Word) :
    (s.memWrite a v).rawRead b =
      if 0xE000 ≤ a.toNat ∧ a.toNat ≤ 0xFDFF then if b.toNat = a.toNat - 0x2000 then v else s.rawRead b
      else if (0xFEA0 ≤ a.toNat ∧ a.toNat ≤ 0xFEFF) ∨ a.toNat ≤ 0x7FFF then s.rawRead b
      else if b = a then v
      else s.rawRead b := by
  by_cases hl : isLengthRegister a = true
  · have hhigh := isLengthRegister_high hl
    rw [memWrite_length v hfree hl, if_neg (by omega), if_neg (by omega)]
    exact rawRead_rawWrite s a b v
  rw [memWrite_range v hfree h00 h41 h46 h04 h45 hl]
  by_cases he : 0xE000 ≤ a.toNat ∧ a.toNat ≤ 0xFDFF
  · have hmirror : b = BitVec.ofNat 16 (a.toNat - 0x2000) ↔ b.toNat = a.toNat - 0x2000 := by
      rw [← BitVec.toNat_inj, BitVec.toNat_ofNat, Nat.mod_eq_of_lt (by omega)]
    rw [if_pos he, if_pos he, rawRead_rawWrite]
    exact if_congr hmirror rfl rfl
  · rw [if_neg he, if_neg he, apply_ite (State.rawRead · b), rawRead_rawWrite]

end

/-- The comparison of LY with LYC writes the coincidence bit of STAT alone (R110). -/
theorem rawRead_coincidenceRecheck (s : State) (b : Word) :
    s.coincidenceRecheck.rawRead b =
      if b = 0xFF41 then
        (s.rawRead 0xFF41 &&& 0xFB) ||| (if s.rawRead 0xFF44 = s.rawRead 0xFF45 then 0x04 else 0x00)
      else s.rawRead b :=
  rawRead_rawWrite s 0xFF41 b _

/-- The table of R111 in numbers. -/
theorem reloadLength_lengthTimer (s : State) (a : Word) (v : Byte) :
    (s.reloadLength a v).lengthTimer =
      if a = 0xFF11 then { s.lengthTimer with ch1 := 64 - v.toNat % 64 }
      else if a = 0xFF16 then { s.lengthTimer with ch2 := 64 - v.toNat % 64 }
      else if a = 0xFF1B then { s.lengthTimer with ch3 := 256 - v.toNat }
      else if a = 0xFF20 then { s.lengthTimer with ch4 := 64 - v.toNat % 64 }
      else s.lengthTimer := by
  have hlow : (v &&& 0x3F).toNat = v.toNat % 64 := Nat.and_two_pow_sub_one_eq_mod v.toNat 6
  rw [← hlow]
  rfl

/-- A write that is not blocked reloads the length timer that its address has, if any (R111). -/
theorem memWrite_lengthTimer {s : State} {a : Word} (v : Byte) (hfree : ¬ s.blocked a) :
    (s.memWrite a v).lengthTimer = (s.reloadLength a v).lengthTimer := by
  by_cases hl : isLengthRegister a = true
  · rw [memWrite_length v hfree hl]
    rfl
  · rw [memWrite_lengths s v (Bool.not_eq_true _ ▸ hl), reloadLength_lengthTimer]
    rw [isLengthRegister_iff] at hl
    obtain ⟨h11, h16, h1B, h20⟩ : a ≠ 0xFF11 ∧ a ≠ 0xFF16 ∧ a ≠ 0xFF1B ∧ a ≠ 0xFF20 := by simpa only [not_or] using hl
    rw [if_neg h11, if_neg h16, if_neg h1B, if_neg h20]

/-- Settles O37: a blocked write changes nothing; any other is the equation of its register or of its address range. -/
theorem cpuWriteDecode : Obligations.CpuWriteDecode := by
  unfold Obligations.CpuWriteDecode
  intro s a v h46
  by_cases hc : s.contended a
  · rw [memWrite_blocked s v ((blocked_iff s a).2 hc)]
    simp only [if_pos hc, implies_true, and_self]
  · have hfree : ¬ s.blocked a := mt (blocked_iff s a).1 hc
    simp only [if_neg hc]
    refine ⟨fun b => ?bytes, ?lengths, memWrite_dma s v h46⟩
    case bytes =>
      by_cases h00 : a = 0xFF00
      · rw [h00, memWrite_joypad v (h00 ▸ hfree), rawRead_rawWrite]
        by_cases hb : b = 0xFF00#16 <;> simp [hb]
      by_cases h41 : a = 0xFF41
      · rw [h41, memWrite_stat v (h41 ▸ hfree), rawRead_rawWrite]
        by_cases hb : b = 0xFF41#16 <;> simp [hb]
      by_cases h04 : a = 0xFF04
      · rw [h04, memWrite_div v (h04 ▸ hfree), rawRead_rawWrite]
        by_cases hb : b = 0xFF04#16 <;> simp [hb]
      by_cases h45 : a = 0xFF45
      · rw [h45, memWrite_lyc v (h45 ▸ hfree), rawRead_coincidenceRecheck]
        by_cases hb : b = 0xFF41#16 <;> simp [hb, rawRead_rawWrite]
      have hregister {c : Word} {p : Prop} (h : a ≠ c) : ¬ (a = c ∧ p) := fun h' => h h'.1
      rw [if_neg (hregister h00), if_neg (hregister h41), if_neg (hregister h04), if_neg (hregister h45)]
      exact rawRead_memWrite_range v hfree h00 h41 h46 h04 h45 b
    case lengths =>
      rw [memWrite_lengthTimer v hfree, reloadLength_lengthTimer]

end Sys2Proof.Machine
end

section
/-! The OAM DMA copy (R108, R117): each byte is read as it was before the copy began. -/

namespace Sys2Proof.Machine

/-- Byte `i` of a page, as an address. -/
theorem pageAddress_eq (page : Byte) (i : Nat) :
    wordOf page 0x00 + BitVec.ofNat 16 i = BitVec.ofNat 16 (page.toNat * 256 + i) := by
  simp [wordOf, BitVec.ofNat_add]

theorem toNat_pageAddress (page : Byte) {i : Nat} (h : i < 160) :
    (wordOf page 0x00 + BitVec.ofNat 16 i).toNat = page.toNat * 256 + i := by
  have hpage := page.isLt
  rw [pageAddress_eq, BitVec.toNat_ofNat, Nat.mod_eq_of_lt (by omega)]

section

variable (s : State) (page : Byte) {n : Nat} (hn : n ≤ 0xA0) {a : Word}

include hn

/-- The first `n` bytes of the copy change no decoded read outside their own places in OAM: the read decode looks at OAM
for OAM's own addresses alone (R102). -/
theorem decodedRead_dmaCopied (ha : ¬ (0xFE00 ≤ a.toNat ∧ a.toNat < 0xFE00 + n)) :
    (s.dmaCopied page n).decodedRead a = s.decodedRead a := by
  have hread (b : Word) := rawRead_dmaCopied_other s page hn b
  have hjoypad : (s.dmaCopied page n).joypadRead = s.joypadRead := by
    unfold State.joypadRead
    rw [hread 0xFF00 (by simp; omega), dmaCopied_eq]
  rw [decodedRead_eq, decodedRead_eq, hjoypad, hread 0xFF41 (by simp; omega), hread a ha]
  refine if_congr Iff.rfl rfl (if_congr Iff.rfl rfl ?_)
  split_ifs with hecho
  · refine hread _ ?_
    rw [BitVec.toNat_ofNat]
    omega
  · rfl
  · rfl

/-- The same of the path the parameter chooses (R108). -/
theorem dmaSrcRead_dmaCopied (ha : ¬ (0xFE00 ≤ a.toNat ∧ a.toNat < 0xFE00 + n)) :
    (s.dmaCopied page n).dmaSrcRead a = s.dmaSrcRead a := by
  have hconfig : (s.dmaCopied page n).config = s.config := by rw [dmaCopied_eq]
  unfold State.dmaSrcRead
  rw [hconfig, decodedRead_dmaCopied s page hn ha, rawRead_dmaCopied_other s page hn a ha]

end

/-- Each byte copied is what the source read before the copy began: a source in OAM itself is page 0xFE, whose byte `i` is
the target of step `i` and of no step before it. -/
theorem rawRead_dmaCopied_same (s : State) (page : Byte) {n i : Nat} (hn : n ≤ 0xA0) (hi : i < n) :
    (s.dmaCopied page n).rawRead (0xFE00 + BitVec.ofNat 16 i) =
      s.dmaSrcRead (wordOf page 0x00 + BitVec.ofNat 16 i) := by
  induction n with
  | zero => omega
  | succ n ih =>
    rw [dmaCopied_succ, State.dmaCopyByte, rawRead_rawWrite]
    by_cases hlast : i = n
    · subst hlast
      rw [if_pos rfl]
      refine dmaSrcRead_dmaCopied s page (by omega) ?_
      rw [toNat_pageAddress page (by omega)]
      omega
    · have hne : (0xFE00 + BitVec.ofNat 16 i : Word) ≠ 0xFE00 + BitVec.ofNat 16 n := by
        rw [Ne, ← BitVec.toNat_inj, toNat_dmaTarget (by omega), toNat_dmaTarget (by omega)]
        omega
      rw [if_neg hne]
      exact ih (by omega) (by omega)

theorem startDma_countdown (s : State) (page : Byte) : (s.startDma page).dmaCountdown = 640 := rfl

theorem startDma_source (s : State) (page : Byte) : (s.startDma page).dmaSource = page := by
  rw [startDma_eq, dmaCopied_eq]

/-- A transfer fills OAM from its source page (R108). -/
theorem rawRead_startDma_oam (s : State) (page : Byte) {i : Nat} (hi : i < 0xA0) :
    (s.startDma page).rawRead (0xFE00 + BitVec.ofNat 16 i) = s.dmaSrcRead (wordOf page 0x00 + BitVec.ofNat 16 i) := by
  rw [startDma_eq, rawRead_countdown, rawRead_dmaCopied_same _ page le_rfl hi]
  rfl

/-- A transfer leaves every byte outside OAM (R117). -/
theorem rawRead_startDma_other (s : State) (page : Byte) {b : Word} (hb : ¬ (0xFE00 ≤ b.toNat ∧ b.toNat ≤ 0xFE9F)) :
    (s.startDma page).rawRead b = s.rawRead b := by
  rw [startDma_eq, rawRead_countdown, rawRead_dmaCopied_other _ page le_rfl b (by omega), rawRead_source]

/-- The DMA source's path is the raw read, or the CPU's read with no transfer in progress (R108). -/
theorem dmaSrcRead_eq (s : State) (a : Word) :
    s.dmaSrcRead a =
      match s.config.dmaSourcePath with
      | .decoded => ({ s with dmaCountdown := 0 }).memRead a
      | .raw => s.rawRead a := by
  have hidle : ({ s with dmaCountdown := 0 } : State).memRead a = s.decodedRead a :=
    memRead_free _ (blocked_of_idle _ a rfl)
  unfold State.dmaSrcRead
  cases s.config.dmaSourcePath
  · exact hidle.symm
  · rfl

/-- Settles O38: a write that is not blocked is the store of the byte and then the transfer. -/
theorem dmaTransfersAtOnce : Obligations.DmaTransfersAtOnce := by
  unfold Obligations.DmaTransfersAtOnce
  refine ⟨fun s v hc => memWrite_blocked s v ((blocked_iff s _).2 hc), fun s v hc => ?_⟩
  rw [memWrite_dmaRegister v (mt (blocked_iff s _).1 hc)]
  refine ⟨startDma_source _ v, startDma_countdown _ v, startDma_lengths _ v, ?register, ?oam, ?others⟩
  case register => rw [rawRead_startDma_other _ v (by decide), rawRead_rawWrite_same]
  case oam =>
    intro i hi
    rw [← pageAddress_eq, BitVec.ofNat_add]
    exact (rawRead_startDma_oam _ v hi).trans (dmaSrcRead_eq _ _)
  case others =>
    intro b hb hoam
    rw [rawRead_startDma_other _ v hoam, rawRead_rawWrite_other s v hb]

end Sys2Proof.Machine
end

section
/-! What can stop a step: the host's input alone (R428). -/

namespace Sys2Proof.Machine

/-- The host reports opposing directions pressed: right and left, or up and down (0 is pressed, R51). -/
def HostInput.opposing (h : HostInput) : Prop :=
  ∃ v, h.joypad = some v ∧
    ((v.2.getLsbD 0 = false ∧ v.2.getLsbD 1 = false) ∨ (v.2.getLsbD 2 = false ∧ v.2.getLsbD 3 = false))

theorem dpadValid_eq_false_iff (dpad : Byte) :
    dpadValid dpad = false ↔
      (dpad.getLsbD 0 = false ∧ dpad.getLsbD 1 = false) ∨ (dpad.getLsbD 2 = false ∧ dpad.getLsbD 3 = false) := by
  rw [dpadValid, Bool.and_eq_false_iff, Bool.or_eq_false_iff, Bool.or_eq_false_iff]

/-- Between two iterations the host's input either has a move or presses opposing directions (R428). -/
theorem hostSlot_cases (s : State) (h : HostInput) :
    (∃ t, s.hostSlot h = .next t ∧ ¬ h.opposing) ∨ (s.hostSlot h = .refused .opposingDirections ∧ h.opposing) := by
  obtain ⟨reset, joypad⟩ := h
  cases joypad with
  | none => exact .inl ⟨_, rfl, by simp [HostInput.opposing]⟩
  | some v =>
    have hopp : HostInput.opposing ⟨reset, some v⟩ ↔ dpadValid v.2 = false := by
      simp only [HostInput.opposing, dpadValid_eq_false_iff, Option.some.injEq, exists_eq_left']
    unfold State.hostSlot State.hostJoypad
    by_cases hd : dpadValid v.2 = true
    · exact .inl ⟨_, if_pos hd, by simp [hopp, hd]⟩
    · exact .inr ⟨if_neg hd, by simpa [hopp] using hd⟩

/-- The CPU's slot always answers a next state (R411). -/
theorem cpuTick_next (s : State) : ∃ t, s.cpuTick = .next t := by
  unfold State.cpuTick
  split_ifs
  · exact ⟨_, rfl⟩
  · exact ⟨_, rfl⟩
  · exact exec_next _ _
  · exact ⟨_, rfl⟩

/-- A step answers a next state exactly when the host's input has a move; else it is refused (R428). -/
theorem step_cases (s : State) :
    (∃ t, step s = .next t ∧ ¬ s.input.host.opposing) ∨
      (step s = .refused .opposingDirections ∧ s.input.host.opposing) := by
  unfold step State.iteration State.beforeCpu
  obtain ⟨t, hh, hn⟩ | ⟨hh, ho⟩ := hostSlot_cases s.dropInput s.input.host
  · obtain ⟨u, hu⟩ := cpuTick_next (t.envTimerSlot s.input.timer)
    exact .inl ⟨u.afterCpu s.input.apu, by simp only [hh, hu, Result.andThen], hn⟩
  · exact .inr ⟨by rw [hh]; rfl, ho⟩

/-- Settles O44: a step ends as `step_cases` says, and `exec` always answers a next state. -/
theorem onlyOpposingDirectionsHaveNoMove : Obligations.OnlyOpposingDirectionsHaveNoMove := by
  unfold Obligations.OnlyOpposingDirectionsHaveNoMove
  refine ⟨?noFault, ?refusal, exec_next⟩
  case noFault =>
    intro s x
    obtain ⟨t, hs, -⟩ | ⟨hs, -⟩ := step_cases s
    · simp [hs]
    · simp [hs]
  case refusal =>
    intro s x
    change step s = .refused x ↔ x = .opposingDirections ∧ s.input.host.opposing
    obtain ⟨t, hs, hn⟩ | ⟨hs, ho⟩ := step_cases s
    · simp [hs, hn]
    · simp [hs, ho, eq_comm]

end Sys2Proof.Machine
end

section
/-! Power-on with a cartridge (R128, R550–R554), and the explicit reset of a machine that holds it. -/

namespace Sys2Proof.Machine

/-- An image shorter than 0x150 bytes gives no state (R128, R554). -/
theorem powerOn_short (config : Config) {rom : List Byte} (h : rom.length < 0x150) :
    powerOn config rom = .fault .invalidCartridgeSize := by
  simp [powerOn, loadCartridge, h]

/-- Any other image is copied over `InitMem`, and the machine starts from there (R550). -/
theorem powerOn_long (config : Config) {rom : List Byte} (h : 0x150 ≤ rom.length) :
    powerOn config rom = .next (resetOver config (Memory.loadFrom rom 0 config.initMem)) := by
  simp [powerOn, loadCartridge, Nat.not_lt.mpr h]

/-- The loaded image from address 0 on, up to 0x7FFF, and `InitMem` elsewhere (R128). -/
theorem read_loadFrom_zero (rom : List Byte) (m : Memory) (a : Nat) :
    Memory.read (Memory.loadFrom rom 0 m) a = if a < min rom.length 0x8000 then rom.getD a 0 else Memory.read m a := by
  rw [Memory.read_loadFrom]
  exact if_congr (by omega) rfl rfl

/-- F after a reset depends on the header checksum byte alone (R552). -/
theorem resetF_congr {m n : Memory} (h : Memory.read m 0x014D = Memory.read n 0x014D) : resetF m = resetF n := by
  rw [resetF, resetF, h]

/-- A machine that holds the ROM bytes of an image reads after an explicit reset as after power-on with that image. -/
theorem rawRead_explicitReset_of_rom {s : State} {rom : List Byte}
    (h : ∀ a : Word, a.toNat ≤ 0x7FFF →
      s.rawRead a = (resetOver s.config (Memory.loadFrom rom 0 s.config.initMem)).rawRead a) (a : Word) :
    s.explicitReset.rawRead a = (resetOver s.config (Memory.loadFrom rom 0 s.config.initMem)).rawRead a := by
  by_cases ha : a.toNat ≤ 0x7FFF
  · rw [rawRead_explicitReset_rom ha, h a ha]
  · change Memory.read s.bootMemory a.toNat = Memory.read (Memory.loadFrom rom 0 s.config.initMem) a.toNat
    rw [read_bootMemory_ram s (by omega), read_loadFrom_zero, if_neg (by omega)]

/-- F after power-on, by the header checksum byte (R552). -/
theorem resetF_eq_ite (config : Config) (m : Memory) :
    resetF m = if (resetOver config m).rawRead 0x014D = 0 then 0x80 else 0xB0 :=
  ite_not ..

/-- Settles O60: the array after power-on is the image over `InitMem`, and a reset rebuilds it from the ROM area. -/
theorem powerOnLoadsTheCartridge : Obligations.PowerOnLoadsTheCartridge := by
  unfold Obligations.PowerOnLoadsTheCartridge
  refine ⟨fun config rom h => powerOn_short config h,
    fun config rom h => ⟨_, powerOn_long config h, ?bytes, ?rest, ?again⟩⟩
  case bytes => exact fun a => read_loadFrom_zero rom config.initMem a.toNat
  case rest =>
    rw [← resetF_eq_ite]
    rfl
  case again =>
    rintro s rfl hrom
    have hread := rawRead_explicitReset_of_rom hrom
    refine ⟨hread, ?_⟩
    have hf : resetF s.bootMemory = resetF (Memory.loadFrom rom 0 s.config.initMem) := resetF_congr (hread 0x014D)
    unfold State.explicitReset resetOver
    rw [hf]

end Sys2Proof.Machine
end

section
/-! The encoder, written from the printed map (R168), gives back the bytes of every slot of the two decode tables. -/

namespace Sys2Proof

/-- The instruction at a slot, its operand bytes taken from a word: the low byte alone, or both. -/
def Slot.instr (n : Word) : Slot → Instr
  | .whole i => i
  | .byte f => f (loByte n)
  | .word f => f n

/-- The bytes of that instruction, where the slot is the one of `op` (R150, R158). -/
def Slot.bytes (op : Byte) (n : Word) : Slot → List Byte
  | .whole _ => [op]
  | .byte _ => [op, loByte n]
  | .word _ => [op, loByte n, hiByte n]

/-- Whatever operand follows, the encoder writes the bytes of a slot of `op`. -/
def Slot.EncodesAt (op : Byte) (s : Slot) : Prop := ∀ n, encode (s.instr n) = s.bytes op n

/-- A byte is made of its fields `x`, `y`, `z` (R152). -/
theorem byteOf_fields : ∀ op : Byte, byteOf (64 * (fieldX op).val + 8 * (fieldY op).val + (fieldZ op).val) = op := by
  decide

theorem slotGroup0_encodesAt (y z : Fin 8) : (slotGroup0 y z).EncodesAt (byteOf (0x00 + 8 * y.val + z.val)) := by
  intro n
  fin_cases y <;> fin_cases z <;> rfl

theorem slotGroup1_encodesAt (y z : Fin 8) : (slotGroup1 y z).EncodesAt (byteOf (0x40 + 8 * y.val + z.val)) := by
  intro n
  fin_cases y <;> fin_cases z <;> rfl

theorem slotGroup2_encodesAt (y z : Fin 8) :
    (Slot.whole (Row.alu (aluOpOf y) (operand8Of z))).EncodesAt (byteOf (0x80 + 8 * y.val + z.val)) := by
  intro n
  fin_cases y <;> fin_cases z <;> rfl

theorem slotGroup3_encodesAt (y z : Fin 8) : (slotGroup3 y z).EncodesAt (byteOf (0xC0 + 8 * y.val + z.val)) := by
  intro n
  fin_cases y <;> fin_cases z <;> rfl

/-- Every slot of the standard table, the row of 0xCB alone included. -/
theorem stdSlot_encodesAt (op : Byte) : (stdSlot op).EncodesAt op := by
  have hop := byteOf_fields op
  unfold stdSlot
  generalize fieldX op = x, fieldY op = y, fieldZ op = z at hop ⊢
  subst hop
  fin_cases x
  · exact slotGroup0_encodesAt y z
  · exact slotGroup1_encodesAt y z
  · exact slotGroup2_encodesAt y z
  · exact slotGroup3_encodesAt y z

theorem encode_of_whole {op : Byte} {i : Instr} (h : stdSlot op = .whole i) : encode i = [op] := by
  have he := stdSlot_encodesAt op
  rw [h] at he
  exact he 0

theorem encode_of_byte {op : Byte} {f : Byte → Instr} (h : stdSlot op = .byte f) (n : Byte) :
    encode (f n) = [op, n] := by
  have he := stdSlot_encodesAt op
  rw [h] at he
  simpa [Slot.instr, Slot.bytes] using he (wordOf 0 n)

theorem encode_of_word {op : Byte} {f : Word → Instr} (h : stdSlot op = .word f) (lo hi : Byte) :
    encode (f (wordOf hi lo)) = [op, lo, hi] := by
  have he := stdSlot_encodesAt op
  rw [h] at he
  simpa [Slot.instr, Slot.bytes] using he (wordOf hi lo)

/-- Every slot of the extended table (R163). -/
theorem encode_extInstr : ∀ op2 : Byte, encode (extInstr op2) = [0xCB, op2] := by decide

/-- Settles O2: whichever way the bytes decode, the encoder writes those that were consumed. -/
theorem decodedBytesAreTheEncoding : Obligations.DecodedBytesAreTheEncoding := by
  unfold Obligations.DecodedBytesAreTheEncoding
  intro bytes i rest h
  obtain ⟨rfl, rfl, rfl⟩ | ⟨op2, rfl, rfl⟩ | ⟨op, -, rfl, hs⟩ | ⟨op, n, f, -, rfl, hs, rfl⟩ |
    ⟨op, lo, hi, f, -, rfl, hs, rfl⟩ := decode_cases h
  · rfl
  · rw [encode_extInstr]; rfl
  · rw [encode_of_whole hs]; rfl
  · rw [encode_of_byte hs]; rfl
  · rw [encode_of_word hs]; rfl

theorem EncodedBy.eq_encode {bytes : List Byte} {i : Instr} (h : EncodedBy bytes i) : bytes = encode i := by
  simpa using decodedBytesAreTheEncoding _ i [] (h [])

end Sys2Proof
end

section
/-! The rows of the map by the codes of their operand fields: each is what the decoder reads from its opcode
(R153–R164). So every whole instruction has an encoding, and the one the encoder writes is the only one. -/

namespace Sys2Proof

/-- `r16mem[p]` (R156). -/
def MemReg.code : MemReg → Nat
  | .bc => 0
  | .de => 1
  | .hlInc => 2
  | .hlDec => 3

/-! ## One slot of a table -/

theorem encodedBy_whole {op : Byte} {i : Instr} (hp : op ≠ 0xCB) (h : stdSlot op = .whole i) : EncodedBy [op] i :=
  fun rest => decode_whole rest hp h

theorem encodedBy_byte {op : Byte} {f : Byte → Instr} (n : Byte) (hp : op ≠ 0xCB) (h : stdSlot op = .byte f) :
    EncodedBy [op, n] (f n) :=
  fun rest => decode_byte n rest hp h

theorem encodedBy_word {op : Byte} {f : Word → Instr} (n : Word) (hp : op ≠ 0xCB) (h : stdSlot op = .word f) :
    EncodedBy [op, loByte n, hiByte n] (f n) :=
  fun rest => decode_operandWord n rest hp h

theorem encodedBy_prefixed {op2 : Byte} {i : Instr} (h : extInstr op2 = i) : EncodedBy [0xCB, op2] i :=
  fun rest => h ▸ decode_prefixed op2 rest

/-! ## The standard table (R159–R162, R164) -/

theorem encodedBy_ldPairN16 (p : Reg16) (n : Word) :
    EncodedBy [byteOf (0x01 + 16 * p.code), loByte n, hiByte n] (Row.ldPairN16 p n) := by
  cases p <;> exact encodedBy_word n (by decide) rfl

theorem encodedBy_ldAtMemA (p : MemReg) : EncodedBy [byteOf (0x02 + 16 * p.code)] (Row.ldAtMemA p) := by
  cases p <;> exact encodedBy_whole (by decide) rfl

theorem encodedBy_ldAAtMem (p : MemReg) : EncodedBy [byteOf (0x0A + 16 * p.code)] (Row.ldAAtMem p) := by
  cases p <;> exact encodedBy_whole (by decide) rfl

theorem encodedBy_inc16 (p : Reg16) : EncodedBy [byteOf (0x03 + 16 * p.code)] (Row.inc16 p) := by
  cases p <;> exact encodedBy_whole (by decide) rfl

theorem encodedBy_dec16 (p : Reg16) : EncodedBy [byteOf (0x0B + 16 * p.code)] (Row.dec16 p) := by
  cases p <;> exact encodedBy_whole (by decide) rfl

theorem encodedBy_addHl (p : Reg16) : EncodedBy [byteOf (0x09 + 16 * p.code)] (Row.addHl p) := by
  cases p <;> exact encodedBy_whole (by decide) rfl

theorem encodedBy_inc8 (o : Operand8) : EncodedBy [byteOf (0x04 + 8 * o.code)] (Row.inc8 o) := by
  rcases o with ⟨r⟩ | _
  · cases r <;> exact encodedBy_whole (by decide) rfl
  · exact encodedBy_whole (by decide) rfl

theorem encodedBy_dec8 (o : Operand8) : EncodedBy [byteOf (0x05 + 8 * o.code)] (Row.dec8 o) := by
  rcases o with ⟨r⟩ | _
  · cases r <;> exact encodedBy_whole (by decide) rfl
  · exact encodedBy_whole (by decide) rfl

theorem encodedBy_ldRegN8 (r : Reg8) (n : Byte) : EncodedBy [byteOf (0x06 + 8 * r.code), n] (Row.ldRegN8 r n) := by
  cases r <;> exact encodedBy_byte n (by decide) rfl

theorem encodedBy_jrCond (cc : Cond) (e : Byte) : EncodedBy [byteOf (0x20 + 8 * cc.code), e] (Row.jrCond cc e) := by
  cases cc <;> exact encodedBy_byte e (by decide) rfl

theorem encodedBy_ldRegReg (dst src : Reg8) :
    EncodedBy [byteOf (0x40 + 8 * dst.code + src.code)] (Row.ldRegReg dst src) := by
  cases dst <;> cases src <;> exact encodedBy_whole (by decide) rfl

theorem encodedBy_ldRegAtHl (r : Reg8) : EncodedBy [byteOf (0x46 + 8 * r.code)] (Row.ldRegAtHl r) := by
  cases r <;> exact encodedBy_whole (by decide) rfl

theorem encodedBy_ldAtHlReg (r : Reg8) : EncodedBy [byteOf (0x70 + r.code)] (Row.ldAtHlReg r) := by
  cases r <;> exact encodedBy_whole (by decide) rfl

theorem encodedBy_alu (op : AluOp) (o : Operand8) :
    EncodedBy [byteOf (0x80 + 8 * op.code + o.code)] (Row.alu op o) := by
  rcases o with ⟨r⟩ | _
  · cases op <;> cases r <;> exact encodedBy_whole (by decide) rfl
  · cases op <;> exact encodedBy_whole (by decide) rfl

theorem encodedBy_retCond (cc : Cond) : EncodedBy [byteOf (0xC0 + 8 * cc.code)] (Row.retCond cc) := by
  cases cc <;> exact encodedBy_whole (by decide) rfl

theorem encodedBy_pop (p : StackReg) : EncodedBy [byteOf (0xC1 + 16 * p.code)] (Row.pop p) := by
  cases p <;> exact encodedBy_whole (by decide) rfl

theorem encodedBy_jpCond (cc : Cond) (n : Word) :
    EncodedBy [byteOf (0xC2 + 8 * cc.code), loByte n, hiByte n] (Row.jpCond cc n) := by
  cases cc <;> exact encodedBy_word n (by decide) rfl

theorem encodedBy_callCond (cc : Cond) (n : Word) :
    EncodedBy [byteOf (0xC4 + 8 * cc.code), loByte n, hiByte n] (Row.callCond cc n) := by
  cases cc <;> exact encodedBy_word n (by decide) rfl

theorem encodedBy_push (p : StackReg) : EncodedBy [byteOf (0xC5 + 16 * p.code)] (Row.push p) := by
  cases p <;> exact encodedBy_whole (by decide) rfl

theorem encodedBy_aluN8 (op : AluOp) (n : Byte) : EncodedBy [byteOf (0xC6 + 8 * op.code), n] (Row.aluN8 op n) := by
  cases op <;> exact encodedBy_byte n (by decide) rfl

theorem encodedBy_rst (y : Fin 8) : EncodedBy [byteOf (0xC7 + 8 * y.val)] (Row.rst y) := by
  fin_cases y <;> exact encodedBy_whole (by decide) rfl

theorem encodedBy_unused (u : UnusedOpcode) : EncodedBy [u.byte] (Row.unused u) := by
  cases u <;> exact encodedBy_whole (by decide) rfl

/-! ## The extended table (R163) -/

theorem encodedBy_shift (op : ShiftOp) (o : Operand8) :
    EncodedBy [0xCB, byteOf (8 * op.code + o.code)] (Row.shift op o) := by
  rcases o with ⟨r⟩ | _
  · cases op <;> cases r <;> exact encodedBy_prefixed rfl
  · cases op <;> exact encodedBy_prefixed rfl

theorem encodedBy_bit (b : Fin 8) (o : Operand8) :
    EncodedBy [0xCB, byteOf (0x40 + 8 * b.val + o.code)] (Row.bit b o) := by
  rcases o with ⟨r⟩ | _
  · fin_cases b <;> cases r <;> exact encodedBy_prefixed rfl
  · fin_cases b <;> exact encodedBy_prefixed rfl

theorem encodedBy_res (b : Fin 8) (o : Operand8) :
    EncodedBy [0xCB, byteOf (0x80 + 8 * b.val + o.code)] (Row.res b o) := by
  rcases o with ⟨r⟩ | _
  · fin_cases b <;> cases r <;> exact encodedBy_prefixed rfl
  · fin_cases b <;> exact encodedBy_prefixed rfl

theorem encodedBy_set (b : Fin 8) (o : Operand8) :
    EncodedBy [0xCB, byteOf (0xC0 + 8 * b.val + o.code)] (Row.set b o) := by
  rcases o with ⟨r⟩ | _
  · fin_cases b <;> cases r <;> exact encodedBy_prefixed rfl
  · fin_cases b <;> exact encodedBy_prefixed rfl

/-! ## Every whole instruction -/

/-- Every whole instruction has an encoding: the tables leave out no row (R151). -/
theorem exists_encodedBy (i : Instr) (h : i.wellFormed = true) : ∃ bytes, EncodedBy bytes i := by
  induction i using Instr.byRow with
  | prefixCb => exact nomatch h
  | ldPairN16 p n => exact ⟨_, encodedBy_ldPairN16 p n⟩
  | ldAtMemA p => exact ⟨_, encodedBy_ldAtMemA p⟩
  | ldAAtMem p => exact ⟨_, encodedBy_ldAAtMem p⟩
  | inc16 p => exact ⟨_, encodedBy_inc16 p⟩
  | dec16 p => exact ⟨_, encodedBy_dec16 p⟩
  | addHl p => exact ⟨_, encodedBy_addHl p⟩
  | inc8 o => exact ⟨_, encodedBy_inc8 o⟩
  | dec8 o => exact ⟨_, encodedBy_dec8 o⟩
  | ldRegN8 r n => exact ⟨_, encodedBy_ldRegN8 r n⟩
  | jrCond cc e => exact ⟨_, encodedBy_jrCond cc e⟩
  | ldRegReg dst src => exact ⟨_, encodedBy_ldRegReg dst src⟩
  | ldRegAtHl r => exact ⟨_, encodedBy_ldRegAtHl r⟩
  | ldAtHlReg r => exact ⟨_, encodedBy_ldAtHlReg r⟩
  | alu op o => exact ⟨_, encodedBy_alu op o⟩
  | retCond cc => exact ⟨_, encodedBy_retCond cc⟩
  | pop p => exact ⟨_, encodedBy_pop p⟩
  | jpCond cc n => exact ⟨_, encodedBy_jpCond cc n⟩
  | callCond cc n => exact ⟨_, encodedBy_callCond cc n⟩
  | push p => exact ⟨_, encodedBy_push p⟩
  | aluN8 op n => exact ⟨_, encodedBy_aluN8 op n⟩
  | rst y => exact ⟨_, encodedBy_rst y⟩
  | unused u => exact ⟨_, encodedBy_unused u⟩
  | shift op o => exact ⟨_, encodedBy_shift op o⟩
  | bit b o => exact ⟨_, encodedBy_bit b o⟩
  | res b o => exact ⟨_, encodedBy_res b o⟩
  | set b o => exact ⟨_, encodedBy_set b o⟩
  | nop => exact ⟨_, encodedBy_whole (op := 0x00) (by decide) rfl⟩
  | rlca => exact ⟨_, encodedBy_whole (op := 0x07) (by decide) rfl⟩
  | rrca => exact ⟨_, encodedBy_whole (op := 0x0F) (by decide) rfl⟩
  | rla => exact ⟨_, encodedBy_whole (op := 0x17) (by decide) rfl⟩
  | rra => exact ⟨_, encodedBy_whole (op := 0x1F) (by decide) rfl⟩
  | daa => exact ⟨_, encodedBy_whole (op := 0x27) (by decide) rfl⟩
  | cpl => exact ⟨_, encodedBy_whole (op := 0x2F) (by decide) rfl⟩
  | scf => exact ⟨_, encodedBy_whole (op := 0x37) (by decide) rfl⟩
  | ccf => exact ⟨_, encodedBy_whole (op := 0x3F) (by decide) rfl⟩
  | halt => exact ⟨_, encodedBy_whole (op := 0x76) (by decide) rfl⟩
  | ret => exact ⟨_, encodedBy_whole (op := 0xC9) (by decide) rfl⟩
  | reti => exact ⟨_, encodedBy_whole (op := 0xD9) (by decide) rfl⟩
  | ldAtCA => exact ⟨_, encodedBy_whole (op := 0xE2) (by decide) rfl⟩
  | jpHl => exact ⟨_, encodedBy_whole (op := 0xE9) (by decide) rfl⟩
  | ldAAtC => exact ⟨_, encodedBy_whole (op := 0xF2) (by decide) rfl⟩
  | di => exact ⟨_, encodedBy_whole (op := 0xF3) (by decide) rfl⟩
  | ldSpHl => exact ⟨_, encodedBy_whole (op := 0xF9) (by decide) rfl⟩
  | ei => exact ⟨_, encodedBy_whole (op := 0xFB) (by decide) rfl⟩
  | stop n => exact ⟨_, encodedBy_byte (op := 0x10) n (by decide) rfl⟩
  | jrE8 e => exact ⟨_, encodedBy_byte (op := 0x18) e (by decide) rfl⟩
  | ldAtHlN8 n => exact ⟨_, encodedBy_byte (op := 0x36) n (by decide) rfl⟩
  | ldhAtA8A n => exact ⟨_, encodedBy_byte (op := 0xE0) n (by decide) rfl⟩
  | addSpE8 e => exact ⟨_, encodedBy_byte (op := 0xE8) e (by decide) rfl⟩
  | ldhAAtA8 n => exact ⟨_, encodedBy_byte (op := 0xF0) n (by decide) rfl⟩
  | ldHlSpE8 e => exact ⟨_, encodedBy_byte (op := 0xF8) e (by decide) rfl⟩
  | ldAtN16Sp n => exact ⟨_, encodedBy_word (op := 0x08) n (by decide) rfl⟩
  | jpN16 n => exact ⟨_, encodedBy_word (op := 0xC3) n (by decide) rfl⟩
  | callN16 n => exact ⟨_, encodedBy_word (op := 0xCD) n (by decide) rfl⟩
  | ldAtN16A n => exact ⟨_, encodedBy_word (op := 0xEA) n (by decide) rfl⟩
  | ldAAtN16 n => exact ⟨_, encodedBy_word (op := 0xFA) n (by decide) rfl⟩

/-- Settles O1: a whole instruction has an encoding, and by O2 it is the one the encoder writes. -/
theorem decodeOfEncodeIsIdentity : Obligations.DecodeOfEncodeIsIdentity := by
  unfold Obligations.DecodeOfEncodeIsIdentity
  intro i rest h
  obtain ⟨bytes, hb⟩ := exists_encodedBy i h
  rw [← hb.eq_encode]
  exact hb rest

end Sys2Proof
end

section
/-! The length of an instruction by its first byte, the meaning of 0xCB alone, and words of the map. -/

namespace Sys2Proof

theorem Slot.length_bounds (s : Slot) : 1 ≤ s.length ∧ s.length ≤ 3 := by
  cases s <;> simp [Slot.length]

theorem instrLength_bounds (op : Byte) : 1 ≤ instrLength op ∧ instrLength op ≤ 3 := by
  unfold instrLength
  split
  · decide
  · exact Slot.length_bounds _

/-- Three bytes always hold an instruction, of the length that the first of them gives (R166). -/
theorem exists_decode (op b1 b2 : Byte) (rest : List Byte) :
    ∃ i, decode (op :: b1 :: b2 :: rest) = .ok (i, (op :: b1 :: b2 :: rest).drop (instrLength op)) := by
  unfold instrLength
  by_cases hp : op = prefixByte
  · rw [if_pos hp, hp]
    exact ⟨_, decode_prefixed b1 _⟩
  · rw [if_neg hp]
    cases hs : stdSlot op with
    | whole i => exact ⟨i, decode_whole _ hp hs⟩
    | byte f => exact ⟨f b1, decode_byte b1 _ hp hs⟩
    | word f => exact ⟨f (wordOf b2 b1), decode_word b1 b2 _ hp hs⟩

theorem wellFormed_of_ne_prefixCb {i : Instr} (h : i ≠ .prefixCb) : i.wellFormed = true := by
  unfold Instr.wellFormed
  split
  · exact absurd rfl h
  · rfl

/-- The row of 0xCB alone is read only where that byte is the last. -/
theorem wellFormed_of_decode {op b : Byte} {bytes rest : List Byte} {i : Instr}
    (h : decode (op :: b :: bytes) = .ok (i, rest)) : i.wellFormed = true := by
  refine wellFormed_of_ne_prefixCb ?_
  rintro rfl
  have hb : op :: b :: bytes = 0xCB :: rest := decodedBytesAreTheEncoding _ _ _ h
  obtain ⟨rfl, rfl⟩ := List.cons.inj hb
  rw [decode_prefixed] at h
  simp at h

/-- Settles O3: the length is `instrLength` of the first byte. -/
theorem firstByteFixesTheLength : Obligations.FirstByteFixesTheLength := by
  unfold Obligations.FirstByteFixesTheLength
  intro op
  obtain ⟨hlow, hhigh⟩ := instrLength_bounds op
  refine ⟨instrLength op, hlow, hhigh, ?prefixed, fun b1 b2 rest => ?decoded⟩
  case prefixed => exact fun h => if_pos h
  case decoded =>
    obtain ⟨i, hi⟩ := exists_decode op b1 b2 rest
    exact ⟨i, wellFormed_of_decode hi, hi⟩

/-- Settles O4: the decoder is run on the eighteen words. -/
theorem decodedWordsOfTheMap : Obligations.DecodedWordsOfTheMap := by
  unfold Obligations.DecodedWordsOfTheMap
  decide

namespace Machine

/-- An extended instruction does what its opcode's fields select, in the time they give (R163, R395). -/
theorem exec_extInstr (op2 : Byte) (s : State) :
    exec (extInstr op2) s = complete (extCycles op2) (extOperation op2 s) := by
  unfold extInstr extCycles extOperation
  generalize fieldX op2 = x
  fin_cases x
  · exact exec_shift _ _ s
  · exact exec_bit _ _ s
  · exact exec_res _ _ s
  · exact exec_set _ _ s

/-- Settles O34: 0xCB alone fetches the byte at PC and runs the slot of the extended table that it selects. -/
theorem prefixRunsTheExtendedInstruction : Obligations.PrefixRunsTheExtendedInstruction := by
  unfold Obligations.PrefixRunsTheExtendedInstruction
  intro s
  have hexec : exec .prefixCb s = exec (extInstr (s.memRead s.pc)) { s with pc := s.pc + 1 } := by
    rw [exec_prefixCb, exec_extInstr]
    rfl
  obtain ⟨t, ht⟩ := exec_next .prefixCb s
  exact ⟨_, t, encodedBy_prefixed rfl, hexec, ht⟩

end Machine

end Sys2Proof
end

section
/-! 8-bit loads and stores (R200–R219): what each leaves, as a register write or as one CPU write beside the registers. -/

namespace Sys2Proof.Machine

/-! ## The shared operations -/

theorem complete_setReg8 (n : Nat) (s : State) (r : Reg8) (v : Byte) :
    complete n (s.setReg8 r v) = .next { s.setReg8 r v with cpuCycles := s.cpuCycles + n } := by
  rw [complete, State.charge, setReg8_cpuCycles]

/-- `LD A,r16mem[p]`: A is the byte at the address, beside what becomes of HL. -/
theorem ldAAtMem_eq (p : MemReg) (s : State) :
    ldAAtMem p s = { s.memRegAfter p with a := s.memRead (s.memRegAddr p) } := by
  cases p <;> rfl

/-- What becomes of HL after an access does not depend on the bus. -/
theorem memRegAfter_withBus (p : MemReg) (r s : State) : (r.withBus s).memRegAfter p = (r.memRegAfter p).withBus s := by
  cases p <;> rfl

/-- `LD r16mem[p],A`: one CPU write of A in the state itself, beside what becomes of HL. -/
theorem ldAtMemA_eq_withBus (p : MemReg) (s : State) :
    ldAtMemA p s = (s.memRegAfter p).withBus (s.memWrite (s.memRegAddr p) s.a) := by
  rw [← memRegAfter_withBus, ← memWrite_withBus_self, ldAtMemA, ldATo]

/-- An instruction whose meaning is one CPU write beside the registers of `r` answers that write, its duration charged. -/
theorem exec_wroteOnly {i : Instr} {s u r : State} {n : Nat} {a : Word} {v : Byte} (he : exec i s = complete n u)
    (hu : u = r.withBus (s.memWrite a v)) : ∃ t, exec i s = .next t ∧ s.WroteOnly a v (r.charge n) t :=
  ⟨u.charge n, he, wroteOnly_withBus (by rw [hu]; rfl)⟩

/-- The same where the write is all that the instruction does. -/
theorem exec_memWrite_wroteOnly {i : Instr} {s : State} {n : Nat} {a : Word} {v : Byte}
    (he : exec i s = complete n (s.memWrite a v)) :
    ∃ t, exec i s = .next t ∧ s.WroteOnly a v { s with cpuCycles := s.cpuCycles + n } t :=
  exec_wroteOnly he (memWrite_withBus_self s a v)

/-! ## The families of instructions -/

theorem exec_ldAtMemA_wroteOnly (p : MemReg) (s : State) :
    ∃ t, exec (Row.ldAtMemA p) s = .next t ∧ s.WroteOnly (s.memRegAddr p) s.a ((s.memRegAfter p).charge 8) t :=
  exec_wroteOnly (exec_ldAtMemA p s) (ldAtMemA_eq_withBus p s)

theorem exec_ldAAtMem_eq (p : MemReg) (s : State) :
    exec (Row.ldAAtMem p) s = .next ({ s.memRegAfter p with a := s.memRead (s.memRegAddr p) }.charge 8) := by
  rw [exec_ldAAtMem, ldAAtMem_eq, complete]

/-! ## The obligations -/

/-- Settles O8: each form is one CPU write at HL, and nothing else but its duration. -/
theorem storeAtHl : Obligations.StoreAtHl := by
  unfold Obligations.StoreAtHl
  intro s
  refine ⟨fun src => ⟨encodedBy_ldAtHlReg src, ?register⟩, fun n => ⟨encodedBy_byte n (by decide) rfl, ?immediate⟩⟩
  case register => exact exec_memWrite_wroteOnly (exec_ldAtHlReg src s)
  case immediate => exact exec_memWrite_wroteOnly (exec_ldAtHlN8 n s)

/-- Settles O10: the four forms of `r16mem` by their operand code, the others by the address they give. -/
theorem storeAToMemory : Obligations.StoreAToMemory := by
  unfold Obligations.StoreAToMemory
  intro s
  refine ⟨⟨encodedBy_ldAtMemA .bc, exec_ldAtMemA_wroteOnly .bc s⟩,
    ⟨encodedBy_ldAtMemA .de, exec_ldAtMemA_wroteOnly .de s⟩,
    ⟨encodedBy_ldAtMemA .hlInc, exec_ldAtMemA_wroteOnly .hlInc s⟩,
    ⟨encodedBy_ldAtMemA .hlDec, exec_ldAtMemA_wroteOnly .hlDec s⟩,
    fun n => ⟨encodedBy_word n (by decide) rfl, ?absolute⟩,
    fun n => ⟨encodedBy_byte n (by decide) rfl, ?highImmediate⟩,
    ⟨encodedBy_whole (by decide) rfl, ?highC⟩⟩
  case absolute => exact exec_memWrite_wroteOnly (exec_ldAtN16A n s)
  case highImmediate => exact highAddr_eq n ▸ exec_memWrite_wroteOnly (exec_ldhAtA8A n s)
  case highC => exact highAddr_eq s.c ▸ exec_memWrite_wroteOnly (exec_ldAtCA s)

/-- Settles O7: each form is one register write of the source value, read in the starting state. -/
theorem loadRegister : Obligations.LoadRegister := by
  unfold Obligations.LoadRegister
  intro dst s
  refine ⟨fun src => ⟨encodedBy_ldRegReg dst src, ?register⟩, fun n => ⟨encodedBy_ldRegN8 dst n, ?immediate⟩,
    encodedBy_ldRegAtHl dst, ?atHl⟩
  case register => exact (exec_ldRegReg dst src s).trans (complete_setReg8 4 s dst _)
  case immediate => exact (exec_ldRegN8 dst n s).trans (complete_setReg8 8 s dst n)
  case atHl => exact (exec_ldRegAtHl dst s).trans (complete_setReg8 8 s dst _)

/-- Settles O9: the four forms of `r16mem` by their operand code, the others by the address they give. -/
theorem loadAFromMemory : Obligations.LoadAFromMemory := by
  unfold Obligations.LoadAFromMemory
  intro s
  refine ⟨⟨encodedBy_ldAAtMem .bc, exec_ldAAtMem_eq .bc s⟩, ⟨encodedBy_ldAAtMem .de, exec_ldAAtMem_eq .de s⟩,
    ⟨encodedBy_ldAAtMem .hlInc, exec_ldAAtMem_eq .hlInc s⟩, ⟨encodedBy_ldAAtMem .hlDec, exec_ldAAtMem_eq .hlDec s⟩,
    fun n => ⟨encodedBy_word n (by decide) rfl, exec_ldAAtN16 n s⟩,
    fun n => ⟨encodedBy_byte n (by decide) rfl, ?highImmediate⟩,
    ⟨encodedBy_whole (by decide) rfl, ?highC⟩⟩
  case highImmediate => exact highAddr_eq n ▸ exec_ldhAAtA8 n s
  case highC => exact highAddr_eq s.c ▸ exec_ldAAtC s

end Sys2Proof.Machine
end

section
/-! 16-bit loads and the stack (R240–R248): the two writes of a push, the two reads of a pop, and a pop after a push. -/

namespace Sys2Proof.Machine

/-! ## Two CPU writes -/

/-- An instruction whose meaning is two CPU writes beside the registers of `r` answers those writes, its duration
charged. -/
theorem exec_wroteBoth {i : Instr} {s u r : State} {n : Nat} {a b : Word} {v w : Byte} (he : exec i s = complete n u)
    (hu : u = r.withBus ((s.memWrite a v).memWrite b w)) :
    ∃ t, exec i s = .next t ∧ s.WroteBoth a v b w (r.charge n) t :=
  ⟨u.charge n, he, wroteBoth_withBus (by rw [hu]; rfl)⟩

/-! ## Pairs by their two bytes -/

/-- Write of `r16stk[p]` from its high and its low byte (R31, R155); F is masked (R32). -/
def State.setStackBytes (s : State) (p : StackReg) (hi lo : Byte) : State :=
  match p with
  | .bc => { s with b := hi, c := lo }
  | .de => { s with d := hi, e := lo }
  | .hl => { s with h := hi, l := lo }
  | .af => { s with a := hi, f := lo &&& 0xF0 }

theorem setStackReg_wordOf (s : State) (p : StackReg) (hi lo : Byte) :
    s.setStackReg p (wordOf hi lo) = s.setStackBytes p hi lo := by
  cases p <;> simp [State.setStackReg, State.setReg16, State.setHl, State.writeF, State.setStackBytes]

theorem hiByte_and (w m : Word) : hiByte (w &&& m) = hiByte w &&& hiByte m := by
  rw [hiByte, BitVec.toNat_and, Nat.and_div_two_pow (n := 8), BitVec.ofNat_and, hiByte, hiByte]

theorem loByte_and (w m : Word) : loByte (w &&& m) = loByte w &&& loByte m := by
  rw [loByte, BitVec.toNat_and, BitVec.ofNat_and, loByte, loByte]

/-- A word with its low nibble cleared, by its two bytes. -/
theorem wordOf_mask (w : Word) : wordOf (hiByte w) (loByte w &&& 0xF0) = w &&& 0xFFF0 := by
  have hhigh : hiByte (w &&& 0xFFF0) = hiByte w := (hiByte_and w 0xFFF0).trans BitVec.and_allOnes
  have hlow : loByte (w &&& 0xFFF0) = loByte w &&& 0xF0 := loByte_and w 0xFFF0
  rw [← hhigh, ← hlow, wordOf_hiByte_loByte]

/-- What is read of a pair after a write of it: the word, with its low nibble cleared for AF (R31, R32). -/
theorem stackReg_setStackReg (s : State) (p : StackReg) (w : Word) :
    (s.setStackReg p w).stackReg p = if p = .af then w &&& 0xFFF0 else w := by
  cases p with
  | bc => exact wordOf_hiByte_loByte w
  | de => exact wordOf_hiByte_loByte w
  | hl => exact wordOf_hiByte_loByte w
  | af =>
    have hmask : (loByte w &&& 0xF0) &&& 0xF0 = loByte w &&& 0xF0 := by rw [BitVec.and_assoc, BitVec.and_self]
    exact (congrArg (wordOf (hiByte w)) hmask).trans (wordOf_mask w)

/-! ## The stack on plain bytes -/

theorem stackReg_charge (s : State) (n : Nat) (p : StackReg) : (s.charge n).stackReg p = s.stackReg p := by
  cases p <;> rfl

theorem stackTop_charge (s : State) (n : Nat) : (s.charge n).stackTop = s.stackTop := rfl

section

variable {a : Word}

/-- A plain address has no case of its own in the read decode (R102, R115). -/
theorem isPlain_plainRead (h : isPlain a = true) : plainRead a = true := by
  simp [isPlain, plainRead, isLengthRegister, BitVec.le_def, ← BitVec.toNat_inj] at h ⊢
  omega

/-- Nor has it one in the write decode (R103, R115). -/
theorem isPlain_plainWrite (h : isPlain a = true) : plainWrite a = true := by
  simp [isPlain, plainWrite, isLengthRegister, BitVec.le_def, ← BitVec.toNat_inj] at h ⊢
  omega

/-- A CPU read of a plain address that no transfer blocks is the byte of the array. -/
theorem memRead_isPlain {s : State} (h : isPlain a = true) (hfree : ¬ s.contended a) : s.memRead a = s.rawRead a := by
  rw [memRead_free s ((blocked_eq_false_iff s a).2 hfree), decodedRead_plain s (isPlain_plainRead h)]

/-- A CPU write of a plain address that no transfer blocks is a store of the byte. -/
theorem memWrite_isPlain {s : State} (v : Byte) (h : isPlain a = true) (hfree : ¬ s.contended a) :
    s.memWrite a v = s.rawWrite a v :=
  memWrite_plain s v ((blocked_eq_false_iff s a).2 hfree) (isPlain_plainWrite h)

end

/-- The word that a pop reads after a push, on plain stack bytes that no transfer blocks (R240, R241). -/
theorem stackTop_push16 {s : State} (h1 : isPlain (s.sp - 1) = true) (h2 : isPlain (s.sp - 2) = true)
    (hf1 : ¬ s.contended (s.sp - 1)) (hf2 : ¬ s.contended (s.sp - 2)) (v : Word) : (s.push16 v).stackTop = v := by
  have hnext : s.sp - 2 + 1 = s.sp - 1 := by bv_omega
  have hne : s.sp - 1 ≠ s.sp - 2 := by bv_omega
  -- contention looks at the DMA registers alone, so `hf1` and `hf2` also hold of the states within the push
  have hpush : s.push16 v =
      (({ s with sp := s.sp - 2 } : State).rawWrite (s.sp - 1) (hiByte v)).rawWrite (s.sp - 2) (loByte v) := by
    rw [State.push16, memWrite_isPlain _ h1 (by exact hf1), memWrite_isPlain _ h2 (by exact hf2)]
  have hhigh : (s.push16 v).memRead (s.sp - 1) = hiByte v := by
    rw [hpush, memRead_isPlain h1 (by exact hf1), rawRead_rawWrite_other _ _ hne, rawRead_rawWrite_same]
  have hlow : (s.push16 v).memRead (s.sp - 2) = loByte v := by
    rw [hpush, memRead_isPlain h2 (by exact hf2), rawRead_rawWrite_same]
  rw [State.stackTop, push16_sp, hnext, hhigh, hlow, wordOf_hiByte_loByte]

/-! ## The families of instructions -/

/-- A pop writes the pair's low byte from SP and its high byte from SP + 1, SP two higher (R241, R247, R248). -/
theorem exec_pop_eq (p : StackReg) (s : State) :
    exec (Row.pop p) s =
      .next ((({ s with sp := s.sp + 2 } : State).setStackBytes p (s.memRead (s.sp + 1)) (s.memRead s.sp)).charge 12) := by
  rw [exec_pop, popPair, State.stackTop, setStackReg_wordOf, State.dropTop, complete]

/-- `LD HL,SP+e8` in the numbers of R245. -/
theorem ldHlSpOffset_eq (e : Byte) (s : State) :
    ldHlSpOffset e s =
      { s with
        h := hiByte (BitVec.ofInt 16 (s.sp.toNat + e.toInt))
        l := loByte (BitVec.ofInt 16 (s.sp.toNat + e.toInt))
        f := flagByte false false (decide (s.sp.toNat % 16 + e.toNat % 16 > 15))
          (decide (s.sp.toNat % 256 + e.toNat > 255)) } := by
  rw [ldHlSpOffset, add_sext16, State.setFlags, spOffsetFlags_eq, State.setHl]

/-! ## The obligations -/

/-- Settles O12: the 16-bit store is two CPU writes, and nothing else but its duration. -/
theorem storeStackPointer : Obligations.StoreStackPointer := by
  unfold Obligations.StoreStackPointer
  intro n s
  exact ⟨encodedBy_word n (by decide) rfl, exec_wroteBoth (exec_ldAtN16Sp n s) (memWrite16_withBus s n s.sp)⟩

/-- Settles O13: a push is two CPU writes in the starting state, beside SP two lower. -/
theorem pushWritesHighThenLow : Obligations.PushWritesHighThenLow := by
  unfold Obligations.PushWritesHighThenLow
  intro p s
  exact ⟨encodedBy_push p, exec_wroteBoth (exec_push p s) (push16_withBus s (s.stackReg p))⟩

/-- Settles O15: the pop reads the two bytes that the push wrote, and writes that word to the pair. -/
theorem popAfterPushReturnsTheValue : Obligations.PopAfterPushReturnsTheValue := by
  unfold Obligations.PopAfterPushReturnsTheValue
  intro p q s h1 h2 hf1 hf2
  have htop := stackTop_push16 h1 h2 hf1 hf2 (s.stackReg p)
  refine ⟨_, _, exec_push p s, exec_pop q _, ?sp, ?value⟩
  case sp => simp [popPair, pushPair]
  case value => rw [stackReg_charge, popPair, stackTop_charge, pushPair, htop, stackReg_setStackReg]

/-- Settles O11: the pair is written from the operand word, from HL, or from the sum with its flags. -/
theorem loadPair : Obligations.LoadPair := by
  unfold Obligations.LoadPair
  intro s
  refine ⟨fun p n => ⟨encodedBy_ldPairN16 p n, ?immediate⟩, ⟨encodedBy_whole (by decide) rfl, exec_ldSpHl s⟩,
    fun e => ⟨encodedBy_byte e (by decide) rfl, ?offset⟩⟩
  case immediate => rw [exec_ldPairN16, ldPairN16, complete, State.charge, setReg16_cpuCycles]
  case offset => rw [exec_ldHlSpE8, ldHlSpOffset_eq, complete, State.charge]

/-- Settles O14: the four pairs by their code. -/
theorem popReadsLowThenHigh : Obligations.PopReadsLowThenHigh := by
  unfold Obligations.PopReadsLowThenHigh
  intro s
  exact ⟨⟨encodedBy_pop .bc, exec_pop_eq .bc s⟩, ⟨encodedBy_pop .de, exec_pop_eq .de s⟩,
    ⟨encodedBy_pop .hl, exec_pop_eq .hl s⟩, ⟨encodedBy_pop .af, exec_pop_eq .af s⟩⟩

end Sys2Proof.Machine
end

section
/-! 8-bit arithmetic and logic (R260–R294): what each instruction leaves, its result and the byte of F in numbers. -/

namespace Sys2Proof.Machine

/-! ## The shared operations -/

/-- The ALU operations in numbers (R260–R262): the new A, which CP keeps, and the byte of F. -/
def aluResult (op : AluOp) (a v : Byte) (carry : Bool) : Byte × Byte :=
  match op with
  | .add => sumOf a v false
  | .adc => sumOf a v carry
  | .sub => differenceOf a v false
  | .sbc => differenceOf a v carry
  | .and => (a &&& v, flagByte (decide (a &&& v = 0)) false true false)
  | .xor => (a ^^^ v, flagByte (decide (a ^^^ v = 0)) false false false)
  | .or => (a ||| v, flagByte (decide (a ||| v = 0)) false false false)
  | .cp => (a, (differenceOf a v false).2)

theorem aluFlags_eq (op : AluOp) (a v : Byte) (c : Bool) :
    ((aluFlags op a v c).1, (aluFlags op a v c).2.toByte) = aluResult op a v c := by
  cases op with
  | add => exact addFlags_eq a v false
  | adc => exact addFlags_eq a v c
  | sub => exact subFlags_eq a v false
  | sbc => exact subFlags_eq a v c
  | and => exact congrArg (Prod.mk (a &&& v)) (toByte_flagByte _ _ _ _)
  | xor => exact congrArg (Prod.mk (a ^^^ v)) (toByte_flagByte _ _ _ _)
  | or => exact congrArg (Prod.mk (a ||| v)) (toByte_flagByte _ _ _ _)
  | cp => exact congrArg (fun x : Byte × Byte => (a, x.2)) (subFlags_eq a v false)

/-- An ALU operation writes A and F alone. -/
theorem aluValue_eq (op : AluOp) (v : Byte) (s : State) :
    aluValue op v s =
      { s with a := (aluResult op s.a v s.carryFlag).1, f := (aluResult op s.a v s.carryFlag).2 } := by
  rw [← aluFlags_eq]
  rfl

/-- The flags of INC in numbers; Cy is kept (R287). -/
theorem incFlags_toByte (v : Byte) (s : State) :
    (incFlags v s.flags).2.toByte =
      flagByte (decide (v.toNat = 255)) false (decide (v.toNat % 16 = 15)) s.carryFlag := by
  obtain ⟨-, hzero, hhalf⟩ := incFlags_eq v
  rw [incFlags, toByte_flagByte, hzero, hhalf]
  rfl

/-- The flags of DEC in numbers; Cy is kept (R289). -/
theorem decFlags_toByte (v : Byte) (s : State) :
    (decFlags v s.flags).2.toByte =
      flagByte (decide (v.toNat = 1)) true (decide (v.toNat % 16 = 0)) s.carryFlag := by
  obtain ⟨-, hzero, hhalf⟩ := decFlags_eq v
  rw [decFlags, toByte_flagByte, hzero, hhalf]
  rfl

/-- Flags written before a register are those written after it. -/
theorem setFlags_setReg8 (s : State) (fl : Flags) (r : Reg8) (v : Byte) :
    (s.setFlags fl).setReg8 r v = { s.setReg8 r v with f := fl.toByte } := by
  cases r <;> rfl

/-- A CPU write after the flags is that write in the state itself, beside the flags. -/
theorem setFlags_memWrite (s : State) (fl : Flags) (a : Word) (v : Byte) :
    (s.setFlags fl).memWrite a v = (s.setFlags fl).withBus (s.memWrite a v) :=
  memWrite_withBus (r := s.setFlags fl) (s := s) ⟨rfl, rfl, rfl⟩ a v

theorem incOperand_reg (r : Reg8) (s : State) :
    incOperand (.reg r) s =
      { s.setReg8 r (byteOf ((s.reg8 r).toNat + 1)) with
        f := flagByte (decide ((s.reg8 r).toNat = 255)) false (decide ((s.reg8 r).toNat % 16 = 15)) s.carryFlag } := by
  rw [← incFlags_toByte, ← (incFlags_eq (s.reg8 r)).1]
  exact setFlags_setReg8 s _ r _

theorem decOperand_reg (r : Reg8) (s : State) :
    decOperand (.reg r) s =
      { s.setReg8 r (byteOf ((s.reg8 r).toNat + 255)) with
        f := flagByte (decide ((s.reg8 r).toNat = 1)) true (decide ((s.reg8 r).toNat % 16 = 0)) s.carryFlag } := by
  rw [← decFlags_toByte, ← (decFlags_eq (s.reg8 r)).1]
  exact setFlags_setReg8 s _ r _

theorem incOperand_atHl (s : State) :
    incOperand .atHl s =
      ({ s with
        f := flagByte (decide ((s.memRead s.hl).toNat = 255)) false (decide ((s.memRead s.hl).toNat % 16 = 15))
          s.carryFlag } : State).withBus (s.memWrite s.hl (byteOf ((s.memRead s.hl).toNat + 1))) := by
  rw [← incFlags_toByte, ← (incFlags_eq (s.memRead s.hl)).1]
  exact setFlags_memWrite s _ s.hl _

theorem decOperand_atHl (s : State) :
    decOperand .atHl s =
      ({ s with
        f := flagByte (decide ((s.memRead s.hl).toNat = 1)) true (decide ((s.memRead s.hl).toNat % 16 = 0))
          s.carryFlag } : State).withBus (s.memWrite s.hl (byteOf ((s.memRead s.hl).toNat + 255))) := by
  rw [← decFlags_toByte, ← (decFlags_eq (s.memRead s.hl)).1]
  exact setFlags_memWrite s _ s.hl _

theorem not_eq_byteOf (a : Byte) : ~~~a = byteOf (255 - a.toNat) := by
  apply BitVec.eq_of_toNat_eq
  simp [byteOf]
  omega

/-! ## The families of instructions -/

theorem exec_alu_eq (op : AluOp) (o : Operand8) (s : State) :
    exec (Row.alu op o) s =
      .next { s with a := (aluResult op s.a (s.operand8 o) s.carryFlag).1,
                     f := (aluResult op s.a (s.operand8 o) s.carryFlag).2,
                     cpuCycles := s.cpuCycles + (if o = .atHl then 8 else 4) } := by
  rw [exec_alu, aluOperand, aluValue_eq, operandCycles_eq, complete, State.charge]

theorem exec_aluN8_eq (op : AluOp) (n : Byte) (s : State) :
    exec (Row.aluN8 op n) s =
      .next { s with a := (aluResult op s.a n s.carryFlag).1, f := (aluResult op s.a n s.carryFlag).2,
                     cpuCycles := s.cpuCycles + 8 } := by
  rw [exec_aluN8, aluValue_eq, complete, State.charge]

/-! ## The obligations -/

/-- Settles O16: the rows `add` and `adc` of `aluResult`. -/
theorem addAndAddWithCarry : Obligations.AddAndAddWithCarry := by
  unfold Obligations.AddAndAddWithCarry
  intro s
  exact ⟨fun o => ⟨encodedBy_alu .add o, exec_alu_eq .add o s⟩,
    fun n => ⟨encodedBy_aluN8 .add n, exec_aluN8_eq .add n s⟩,
    fun o => ⟨encodedBy_alu .adc o, exec_alu_eq .adc o s⟩,
    fun n => ⟨encodedBy_aluN8 .adc n, exec_aluN8_eq .adc n s⟩⟩

/-- Settles O17: the rows `sub`, `sbc` and `cp` of `aluResult`. -/
theorem subtractAndCompare : Obligations.SubtractAndCompare := by
  unfold Obligations.SubtractAndCompare
  intro s
  exact ⟨fun o => ⟨encodedBy_alu .sub o, exec_alu_eq .sub o s⟩,
    fun n => ⟨encodedBy_aluN8 .sub n, exec_aluN8_eq .sub n s⟩,
    fun o => ⟨encodedBy_alu .sbc o, exec_alu_eq .sbc o s⟩,
    fun n => ⟨encodedBy_aluN8 .sbc n, exec_aluN8_eq .sbc n s⟩,
    fun o => ⟨encodedBy_alu .cp o, exec_alu_eq .cp o s⟩,
    fun n => ⟨encodedBy_aluN8 .cp n, exec_aluN8_eq .cp n s⟩⟩

/-- Settles O18: the rows `and`, `xor` and `or` of `aluResult`. -/
theorem andXorOr : Obligations.AndXorOr := by
  unfold Obligations.AndXorOr
  intro s
  exact ⟨fun o => ⟨encodedBy_alu .and o, exec_alu_eq .and o s⟩,
    fun n => ⟨encodedBy_aluN8 .and n, exec_aluN8_eq .and n s⟩,
    fun o => ⟨encodedBy_alu .xor o, exec_alu_eq .xor o s⟩,
    fun n => ⟨encodedBy_aluN8 .xor n, exec_aluN8_eq .xor n s⟩,
    fun o => ⟨encodedBy_alu .or o, exec_alu_eq .or o s⟩,
    fun n => ⟨encodedBy_aluN8 .or n, exec_aluN8_eq .or n s⟩⟩

/-- Settles O19: a register is written beside the flags; at HL the result is one CPU write beside them. -/
theorem incrementAndDecrementBytes : Obligations.IncrementAndDecrementBytes := by
  unfold Obligations.IncrementAndDecrementBytes
  intro s
  refine ⟨fun r => ⟨encodedBy_inc8 (.reg r), ?incReg⟩, ⟨encodedBy_inc8 .atHl, ?incAtHl⟩,
    fun r => ⟨encodedBy_dec8 (.reg r), ?decReg⟩, ⟨encodedBy_dec8 .atHl, ?decAtHl⟩⟩
  case incReg => rw [exec_inc8, incOperand_reg, complete, State.charge, setReg8_cpuCycles, operandCycles]
  case incAtHl => exact exec_wroteOnly (exec_inc8 .atHl s) (incOperand_atHl s)
  case decReg => rw [exec_dec8, decOperand_reg, complete, State.charge, setReg8_cpuCycles, operandCycles]
  case decAtHl => exact exec_wroteOnly (exec_dec8 .atHl s) (decOperand_atHl s)

/-- Settles O22: each writes the four flags, two of them as they stand; CPL also complements A. -/
theorem complementAndCarryFlag : Obligations.ComplementAndCarryFlag := by
  unfold Obligations.ComplementAndCarryFlag
  intro s
  refine ⟨⟨encodedBy_whole (by decide) rfl, ?cpl⟩, ⟨encodedBy_whole (by decide) rfl, ?scf⟩,
    ⟨encodedBy_whole (by decide) rfl, ?ccf⟩⟩
  case cpl => rw [exec_cpl, complementA, State.setFlags, toByte_flagByte, not_eq_byteOf]; rfl
  case scf => rw [exec_scf, setCarry, State.setFlags, toByte_flagByte]; rfl
  case ccf => rw [exec_ccf, complementCarry, State.setFlags, toByte_flagByte]; rfl

end Sys2Proof.Machine
end

section
/-! Decimal adjust (R291), and what it is for: decimal addition and subtraction of packed numbers. -/

namespace Sys2Proof.Machine

/-! ## Bytes and flags in numbers -/

theorem toNat_byteOf (n : Nat) : (byteOf n).toNat = n % 256 := BitVec.toNat_ofNat n 8

theorem byteOf_eq_iff {m n : Nat} : byteOf m = byteOf n ↔ m % 256 = n % 256 := by
  rw [← BitVec.toNat_inj, toNat_byteOf, toNat_byteOf]

theorem byteOf_beq_zero (n : Nat) : (byteOf n == 0) = decide (n % 256 = 0) :=
  Bool.eq_iff_iff.2 (by rw [beq_iff_eq, decide_eq_true_iff]; exact byteOf_eq_iff (n := 0))

/-- Each flag is read back from the byte made of the four (R33). -/
theorem flagByte_bits : ∀ z n h c : Bool,
    (flagByte z n h c).getLsbD 7 = z ∧ (flagByte z n h c).getLsbD 6 = n ∧ (flagByte z n h c).getLsbD 5 = h ∧
      (flagByte z n h c).getLsbD 4 = c := by
  decide

/-- The flags of a state whose F is made of four of them. -/
theorem flags_of_f {s : State} {z n h c : Bool} (hf : s.f = flagByte z n h c) :
    s.zeroFlag = z ∧ s.subtractFlag = n ∧ s.halfFlag = h ∧ s.carryFlag = c := by
  rw [State.zeroFlag, State.subtractFlag, State.halfFlag, State.carryFlag, hf]
  exact flagByte_bits z n h c

/-! ## The algorithm -/

/-- The corrections of A after a subtraction, modulo 256. -/
theorem daaSubtracted_eq (a : Byte) (c h : Bool) :
    a - (if c then 0x60 else 0) - (if h then 0x06 else 0) =
      byteOf (a.toNat + 512 - 0x60 * c.toNat - 0x06 * h.toNat) := by
  cases c <;> cases h <;> simp [byteOf] <;> bv_omega

/-- The corrections of A after an addition, modulo 256. -/
theorem daaAdded_eq (a : Byte) (high low : Bool) :
    a + (if high then 0x60 else 0) + (if low then 0x06 else 0) =
      byteOf (a.toNat + 0x60 * high.toNat + 0x06 * low.toNat) := by
  cases high <;> cases low <;> simp [byteOf] <;> bv_omega

theorem daaFlags_of_subtract (a : Byte) {fl : Flags} (hn : fl.n = true) {r : Nat}
    (hr : r = a.toNat + 512 - 0x60 * fl.c.toNat - 0x06 * fl.h.toNat) :
    daaFlags a fl = (byteOf r, ⟨decide (r % 256 = 0), true, false, fl.c⟩) := by
  simp only [daaFlags, hn, if_true, daaSubtracted_eq, byteOf_beq_zero, hr]

theorem daaFlags_of_add {a : Byte} {fl : Flags} (hn : fl.n = false) {high low : Bool}
    (hhigh : (fl.c || decide (a.toNat > 0x99)) = high) (hlow : (fl.h || decide (a.toNat % 16 > 9)) = low) {r : Nat}
    (hr : r = a.toNat + 0x60 * high.toNat + 0x06 * low.toNat) :
    daaFlags a fl = (byteOf r, ⟨decide (r % 256 = 0), false, false, high⟩) := by
  simp only [daaFlags, hn, Bool.false_eq_true, if_false, lowNibble_eq, hhigh, hlow, daaAdded_eq, byteOf_beq_zero, hr]

/-- DAA after a subtraction leaves `r`, the corrected A, modulo 256. -/
theorem exec_daa_of_subtract {s : State} (hn : s.subtractFlag = true) {r : Nat}
    (hr : r = s.a.toNat + 512 - 0x60 * s.carryFlag.toNat - 0x06 * s.halfFlag.toNat) :
    exec .daa s =
      .next { s with a := byteOf r, f := flagByte (decide (r % 256 = 0)) true false s.carryFlag,
                     cpuCycles := s.cpuCycles + 4 } := by
  rw [exec_daa, decimalAdjust, daaFlags_of_subtract s.a (fl := s.flags) hn hr, State.setAccumulator, State.setFlags,
    toByte_flagByte, complete, State.charge]
  rfl

/-- DAA after an addition leaves `r`, A with the corrections `high` and `low` that it finds necessary, modulo 256. -/
theorem exec_daa_of_add {s : State} (hn : s.subtractFlag = false) {high low : Bool}
    (hhigh : (s.carryFlag || decide (s.a.toNat > 0x99)) = high)
    (hlow : (s.halfFlag || decide (s.a.toNat % 16 > 9)) = low) {r : Nat}
    (hr : r = s.a.toNat + 0x60 * high.toNat + 0x06 * low.toNat) :
    exec .daa s =
      .next { s with a := byteOf r, f := flagByte (decide (r % 256 = 0)) false false high,
                     cpuCycles := s.cpuCycles + 4 } := by
  rw [exec_daa, decimalAdjust, daaFlags_of_add (fl := s.flags) hn hhigh hlow hr, State.setAccumulator, State.setFlags,
    toByte_flagByte, complete, State.charge]

/-- Settles O20: by the flag N, which says what DAA follows. -/
theorem decimalAdjustAlgorithm : Obligations.DecimalAdjustAlgorithm := by
  unfold Obligations.DecimalAdjustAlgorithm
  intro s
  refine ⟨encodedBy_whole (by decide) rfl, ?_⟩
  cases hn : s.subtractFlag with
  | true => exact exec_daa_of_subtract hn rfl
  | false => exact exec_daa_of_add hn rfl rfl rfl

/-! ## Packed decimal -/

/-- The number whose two hexadecimal digits are the decimal digits of `n`, for `n` below 100. -/
def packed (n : Nat) : Nat := n / 10 * 16 + n % 10

theorem packed_mod_16 (n : Nat) : packed n % 16 = n % 10 := by
  unfold packed
  omega

theorem packed_lt_iff (m n : Nat) : packed m < packed n ↔ m < n := by
  unfold packed
  omega

theorem toNat_packed {n : Nat} (hn : n < 100) : (byteOf (packed n)).toNat = packed n := by
  rw [toNat_byteOf, packed]
  omega

theorem decide_packed_eq_zero {n : Nat} (hn : n < 100) : decide (packed n % 256 = 0) = decide (n = 0) := by
  rw [decide_eq_decide, packed]
  omega

/-- A sum of packed numbers is above the packed 99 exactly where the numbers have a sum above 99. -/
theorem packed_sum_gt_iff (x y : Nat) : packed x + packed y > 0x99 ↔ 100 ≤ x + y := by
  have htens : x / 10 + y / 10 ≤ 9 ∨ 10 ≤ x / 10 + y / 10 := by omega
  unfold packed
  omega

/-- DAA corrects the tens of a packed sum exactly where there is a decimal carry. -/
theorem packed_sum_high (x y : Nat) :
    (decide (packed x + packed y > 255) || decide ((packed x + packed y) % 256 > 0x99)) = decide (100 ≤ x + y) := by
  rw [← Bool.decide_or, decide_eq_decide, ← packed_sum_gt_iff]
  omega

/-- It corrects the units exactly where they carry. -/
theorem packed_sum_low (x y : Nat) :
    (decide (packed x % 16 + packed y % 16 > 15) || decide ((packed x + packed y) % 256 % 16 > 9)) =
      decide (10 ≤ x % 10 + y % 10) := by
  rw [← Bool.decide_or, decide_eq_decide]
  have := packed_mod_16 x
  have := packed_mod_16 y
  omega

section

variable {x y : Nat} (hx : x < 100) (hy : y < 100)
include hx hy

/-- The two corrections turn the sum of two packed numbers into their decimal sum, packed. -/
theorem packed_sum_corrected :
    ((packed x + packed y) % 256 + 0x60 * (decide (100 ≤ x + y)).toNat +
      0x06 * (decide (10 ≤ x % 10 + y % 10)).toNat) % 256 = packed ((x + y) % 100) % 256 := by
  unfold packed
  by_cases hcarry : 100 ≤ x + y <;> by_cases hunits : 10 ≤ x % 10 + y % 10 <;> simp [hcarry, hunits] <;> omega

/-- The corrections by the two borrows turn the difference of two packed numbers into their decimal difference,
packed. -/
theorem packed_difference_corrected :
    ((packed x + 512 - packed y) % 256 + 512 - 0x60 * (decide (x < y)).toNat -
      0x06 * (decide (x % 10 < y % 10)).toNat) % 256 = packed ((x + 100 - y) % 100) % 256 := by
  unfold packed
  by_cases hborrow : x < y <;> by_cases hunits : x % 10 < y % 10 <;> simp [hborrow, hunits] <;> omega

/-- DAA after an addition of two packed numbers leaves their sum modulo 100, packed, with the decimal carry in Cy. -/
theorem exec_daa_packed_sum {t : State} (ha : t.a = (sumOf (byteOf (packed x)) (byteOf (packed y)) false).1)
    (hf : t.f = (sumOf (byteOf (packed x)) (byteOf (packed y)) false).2) :
    exec .daa t =
      .next { t with a := byteOf (packed ((x + y) % 100)),
                     f := flagByte (decide ((x + y) % 100 = 0)) false false (decide (100 ≤ x + y)),
                     cpuCycles := t.cpuCycles + 4 } := by
  simp only [sumOf, toNat_packed hx, toNat_packed hy, Bool.toNat_false, Nat.add_zero] at ha hf
  obtain ⟨-, hn, hhalf, hcarry⟩ := flags_of_f hf
  have hA : t.a.toNat = (packed x + packed y) % 256 := by rw [ha, toNat_byteOf, Nat.mod_mod]
  have hr := packed_sum_corrected hx hy
  have hhigh : (t.carryFlag || decide (t.a.toNat > 0x99)) = decide (100 ≤ x + y) := by
    rw [hcarry, hA, packed_sum_high]
  have hlow : (t.halfFlag || decide (t.a.toNat % 16 > 9)) = decide (10 ≤ x % 10 + y % 10) := by
    rw [hhalf, hA, packed_sum_low]
  rw [exec_daa_of_add hn hhigh hlow rfl, hA, hr, byteOf_eq_iff.2 hr, decide_packed_eq_zero (Nat.mod_lt _ (by decide))]

/-- DAA after a subtraction of two packed numbers leaves their difference modulo 100, packed, with the decimal borrow in
Cy. -/
theorem exec_daa_packed_difference {t : State}
    (ha : t.a = (differenceOf (byteOf (packed x)) (byteOf (packed y)) false).1)
    (hf : t.f = (differenceOf (byteOf (packed x)) (byteOf (packed y)) false).2) :
    exec .daa t =
      .next { t with a := byteOf (packed ((x + 100 - y) % 100)),
                     f := flagByte (decide ((x + 100 - y) % 100 = 0)) true false (decide (x < y)),
                     cpuCycles := t.cpuCycles + 4 } := by
  simp only [differenceOf, toNat_packed hx, toNat_packed hy, Bool.toNat_false, Nat.add_zero, Nat.sub_zero,
    packed_mod_16, packed_lt_iff] at ha hf
  obtain ⟨-, hn, hhalf, hcarry⟩ := flags_of_f hf
  have hA : t.a.toNat = (packed x + 512 - packed y) % 256 := by rw [ha, toNat_byteOf, Nat.mod_mod]
  have hr := packed_difference_corrected hx hy
  rw [exec_daa_of_subtract hn rfl, hcarry, hhalf, hA, hr, byteOf_eq_iff.2 hr,
    decide_packed_eq_zero (Nat.mod_lt _ (by decide))]

end

theorem packed_mod_100 (n : Nat) : packed (n % 100) = n % 100 / 10 * 16 + n % 10 := by
  rw [packed, Nat.mod_mod_of_dvd n (by decide)]

/-- Settles O21: the operation is a row of `aluResult`, and DAA corrects its packed result. -/
theorem decimalArithmeticIsExact : Obligations.DecimalArithmeticIsExact := by
  unfold Obligations.DecimalArithmeticIsExact
  intro s x y hx hy hs
  have hpacked : s.a = byteOf (packed x) := hs
  refine ⟨⟨_, _, exec_aluN8_eq .add _ s, exec_daa_packed_sum hx hy ?addA ?addF, ?addResult⟩,
    ⟨_, _, exec_aluN8_eq .sub _ s, exec_daa_packed_difference hx hy ?subA ?subF, ?subResult⟩⟩
  case addA => rw [← hpacked]; rfl
  case addF => rw [← hpacked]; rfl
  case addResult =>
    obtain ⟨hz, -, -, hc⟩ := flagByte_bits (decide ((x + y) % 100 = 0)) false false (decide (100 ≤ x + y))
    exact ⟨congrArg byteOf (packed_mod_100 _), hc, hz⟩
  case subA => rw [← hpacked]; rfl
  case subF => rw [← hpacked]; rfl
  case subResult =>
    obtain ⟨hz, -, -, hc⟩ := flagByte_bits (decide ((x + 100 - y) % 100 = 0)) true false (decide (x < y))
    exact ⟨congrArg byteOf (packed_mod_100 _), hc, hz⟩

end Sys2Proof.Machine
end

section
/-! 16-bit arithmetic (R300–R303): what each instruction leaves, its result and the byte of F in numbers. -/

namespace Sys2Proof.Machine

/-! ## The shared operations -/

/-- The flags of `ADD HL,rr` in numbers; Z is kept (R300). -/
theorem addHlFlags_toByte (hl v : Word) (s : State) :
    (addHlFlags hl v s.flags).2.toByte =
      flagByte s.zeroFlag false (decide (hl.toNat % 0x1000 + v.toNat % 0x1000 > 0x0FFF))
        (decide (hl.toNat + v.toNat > 0xFFFF)) := by
  rw [addHlFlags, toByte_flagByte, and_0x0FFF, and_0x0FFF]
  rfl

/-- `ADD HL,rr` in the numbers of R300. -/
theorem addHlPair_eq (p : Reg16) (s : State) :
    addHlPair p s =
      { s with
        h := hiByte (BitVec.ofNat 16 (s.hl.toNat + (s.reg16 p).toNat))
        l := loByte (BitVec.ofNat 16 (s.hl.toNat + (s.reg16 p).toNat))
        f := flagByte s.zeroFlag false (decide (s.hl.toNat % 0x1000 + (s.reg16 p).toNat % 0x1000 > 0x0FFF))
          (decide (s.hl.toNat + (s.reg16 p).toNat > 0xFFFF)) } := by
  rw [addHlPair, State.setFlags, addHlFlags_toByte, addHlFlags, State.setHl]

/-- `ADD SP,e8` in the numbers of R303. -/
theorem addSpOffset_eq (e : Byte) (s : State) :
    addSpOffset e s =
      { s with
        sp := BitVec.ofInt 16 (s.sp.toNat + e.toInt)
        f := flagByte false false (decide (s.sp.toNat % 16 + e.toNat % 16 > 15))
          (decide (s.sp.toNat % 256 + e.toNat > 255)) } := by
  rw [addSpOffset, add_sext16, State.setFlags, spOffsetFlags_eq]

/-- One higher modulo 65536. -/
theorem add_one_eq_ofNat (w : Word) : w + 1 = BitVec.ofNat 16 (w.toNat + 1) := by bv_omega

/-- One lower modulo 65536, as 65535 higher. -/
theorem sub_one_eq_ofNat (w : Word) : w - 1 = BitVec.ofNat 16 (w.toNat + 65535) := by bv_omega

theorem complete_setReg16 (n : Nat) (s : State) (p : Reg16) (v : Word) :
    complete n (s.setReg16 p v) = .next { s.setReg16 p v with cpuCycles := s.cpuCycles + n } := by
  rw [complete, State.charge, setReg16_cpuCycles]

/-! ## The obligations -/

/-- Settles O23: the sum with the carries out of bits 11 and 15 of the pairs, or 3 and 7 of SP and the offset. -/
theorem addWords : Obligations.AddWords := by
  unfold Obligations.AddWords
  intro s
  refine ⟨fun p => ⟨encodedBy_addHl p, ?toHl⟩, fun e => ⟨encodedBy_byte e (by decide) rfl, ?toSp⟩⟩
  case toHl => rw [exec_addHl, addHlPair_eq, complete, State.charge, State.hl]
  case toSp => rw [exec_addSpE8, addSpOffset_eq, complete, State.charge]

/-- Settles O24: each form is one write of the pair, and no flag is among what it writes. -/
theorem incrementAndDecrementPairs : Obligations.IncrementAndDecrementPairs := by
  unfold Obligations.IncrementAndDecrementPairs
  intro p s
  refine ⟨⟨encodedBy_inc16 p, ?inc⟩, encodedBy_dec16 p, ?dec⟩
  case inc => rw [exec_inc16, incPair, add_one_eq_ofNat, complete_setReg16]
  case dec => rw [exec_dec16, decPair, sub_one_eq_ofNat, complete_setReg16]

end Sys2Proof.Machine
end

section
/-! Rotates, shifts and bits (R320–R346): what each leaves, its result and the byte of F in numbers. -/

namespace Sys2Proof.Machine

/-! ## The shared operations -/

/-- An accumulator rotate in the numbers of R324's table; Z is always cleared (R320–R323). -/
theorem rotateA_eq (op : ShiftOp) (s : State) :
    rotateA op s =
      { s with a := byteOf (shiftTable op s.a s.carryFlag).1,
               f := flagByte false false false (shiftTable op s.a s.carryFlag).2 } := by
  obtain ⟨hresult, hcarry, -⟩ := shiftResult_eq op s.a s.carryFlag
  rw [← hresult, ← hcarry, ← toByte_flagByte]
  rfl

/-- The flags of a CB shift or rotate in numbers: Z from the result (R324). -/
theorem shiftFlags_toByte (op : ShiftOp) (v : Byte) (c : Bool) :
    (shiftFlags op v c).2.toByte =
      flagByte (decide ((shiftTable op v c).1 = 0)) false false (shiftTable op v c).2 := by
  obtain ⟨-, hcarry, hzero⟩ := shiftResult_eq op v c
  rw [shiftFlags, toByte_flagByte, hzero, hcarry]

/-- The flags of `BIT b` in numbers; Cy is kept (R341). -/
theorem bitFlags_toByte (b : Fin 8) (v : Byte) (s : State) :
    (bitFlags b v s.flags).toByte = flagByte (!v.getLsbD b.val) false true s.carryFlag :=
  toByte_flagByte _ _ _ _

/-- A CPU write before the flags is that write in the state itself, beside the flags. -/
theorem memWrite_setFlags (s : State) (fl : Flags) (a : Word) (v : Byte) :
    (s.memWrite a v).setFlags fl = (s.setFlags fl).withBus (s.memWrite a v) := by
  rw [memWrite_withBus_self]
  rfl

/-- A shift or rotate of a register writes the register and F alone. -/
theorem shiftOperand_reg (op : ShiftOp) (r : Reg8) (s : State) :
    shiftOperand op (.reg r) s =
      { s.setReg8 r (byteOf (shiftTable op (s.reg8 r) s.carryFlag).1) with
        f := flagByte (decide ((shiftTable op (s.reg8 r) s.carryFlag).1 = 0)) false false
          (shiftTable op (s.reg8 r) s.carryFlag).2 } := by
  rw [← shiftFlags_toByte, ← (shiftResult_eq op (s.reg8 r) s.carryFlag).1]
  rfl

/-- A shift or rotate of the byte at HL is one CPU write in the state itself, beside the flags. -/
theorem shiftOperand_atHl (op : ShiftOp) (s : State) :
    shiftOperand op .atHl s =
      ({ s with
        f := flagByte (decide ((shiftTable op (s.memRead s.hl) s.carryFlag).1 = 0)) false false
          (shiftTable op (s.memRead s.hl) s.carryFlag).2 } : State).withBus
        (s.memWrite s.hl (byteOf (shiftTable op (s.memRead s.hl) s.carryFlag).1)) := by
  rw [← shiftFlags_toByte, ← (shiftResult_eq op (s.memRead s.hl) s.carryFlag).1]
  exact memWrite_setFlags s _ s.hl _

/-! ## The obligations -/

/-- Settles O26: the register and F are written from the table of R324. -/
theorem shiftsOfRegisters : Obligations.ShiftsOfRegisters := by
  unfold Obligations.ShiftsOfRegisters
  intro op r s
  refine ⟨encodedBy_shift op (.reg r), ?_⟩
  rw [exec_shift, shiftOperand_reg, complete, State.charge, setReg8_cpuCycles, operandCycles]

/-- Settles O27: the result is one CPU write at HL, beside the flags. -/
theorem shiftsOfTheByteAtHl : Obligations.ShiftsOfTheByteAtHl := by
  unfold Obligations.ShiftsOfTheByteAtHl
  intro op s
  exact ⟨encodedBy_shift op .atHl, exec_wroteOnly (exec_shift op .atHl s) (shiftOperand_atHl op s)⟩

/-- Settles O25: each rotate is its row of the table of R324, with Z cleared. -/
theorem accumulatorRotates : Obligations.AccumulatorRotates := by
  unfold Obligations.AccumulatorRotates
  intro s
  refine ⟨⟨encodedBy_whole (by decide) rfl, ?rlca⟩, ⟨encodedBy_whole (by decide) rfl, ?rrca⟩,
    ⟨encodedBy_whole (by decide) rfl, ?rla⟩, ⟨encodedBy_whole (by decide) rfl, ?rra⟩⟩
  case rlca => rw [exec_rlca, rotateA_eq, complete, State.charge, shiftTable]
  case rrca => rw [exec_rrca, rotateA_eq, complete, State.charge, shiftTable]
  case rla => rw [exec_rla, rotateA_eq, complete, State.charge, shiftTable]
  case rra => rw [exec_rra, rotateA_eq, complete, State.charge, shiftTable]

/-- Settles O28: the operand is read once, and only the flags are written. -/
theorem bitTest : Obligations.BitTest := by
  unfold Obligations.BitTest
  intro b o s
  refine ⟨encodedBy_bit b o, ?_⟩
  rw [exec_bit, operandCycles_eq, testBit, State.setFlags, bitFlags_toByte, complete, State.charge]

/-- Settles O29: a register is written alone; at HL the result is one CPU write in the state itself. -/
theorem bitResetAndSet : Obligations.BitResetAndSet := by
  unfold Obligations.BitResetAndSet
  intro b s
  have hres : 0x86 + 8 * b.val = 0x80 + 8 * b.val + 6 := Nat.add_right_comm 0x80 6 _
  have hset : 0xC6 + 8 * b.val = 0xC0 + 8 * b.val + 6 := Nat.add_right_comm 0xC0 6 _
  simp only [hres, hset, ← resetBit_eq, ← setBit_eq]
  refine ⟨fun r => ⟨encodedBy_res b (.reg r), ?resReg⟩, ⟨encodedBy_res b .atHl, ?resAtHl⟩,
    fun r => ⟨encodedBy_set b (.reg r), ?setReg⟩, ⟨encodedBy_set b .atHl, ?setAtHl⟩⟩
  case resReg => exact (exec_res b (.reg r) s).trans (complete_setReg8 8 s r _)
  case resAtHl => exact exec_memWrite_wroteOnly (exec_res b .atHl s)
  case setReg => exact (exec_set b (.reg r) s).trans (complete_setReg8 8 s r _)
  case setAtHl => exact exec_memWrite_wroteOnly (exec_set b .atHl s)

end Sys2Proof.Machine
end

section
/-! Control flow (R360–R371): a branch in its two cases, and a call as the two CPU writes of its push. -/

namespace Sys2Proof.Machine

/-! ## The shared operations -/

theorem charge_charge (s : State) (m n : Nat) : (s.charge m).charge n = s.charge (m + n) := by
  rw [State.charge, State.charge, State.charge, Nat.add_assoc]

/-- A branch completes as what it branches to, its overhead charged besides, or as nothing but its base duration
(R360, R418). -/
theorem complete_branchIf (cc : Cond) (overhead base : Nat) (branch : State → State) (s : State) :
    complete base (branchIf cc overhead branch s) =
      if s.taken cc then complete (overhead + base) (branch s) else complete base s := by
  rw [branchIf, cond_eq_taken]
  split_ifs
  · exact congrArg Host.Outcome.next (charge_charge (branch s) overhead base)
  · rfl

/-- `JR` in the numbers of R364. -/
theorem jumpBy_eq (e : Byte) (s : State) : jumpBy e s = { s with pc := BitVec.ofInt 16 (s.pc.toNat + e.toInt) } := by
  rw [jumpBy, add_sext16]

/-- A call is the two CPU writes of its push in the state itself, beside SP two lower and PC at the target. -/
theorem callTo_withBus (target : Word) (s : State) :
    callTo target s =
      ({ s with sp := s.sp - 2, pc := target } : State).withBus
        ((s.memWrite (s.sp - 1) (hiByte s.pc)).memWrite (s.sp - 2) (loByte s.pc)) := by
  rw [callTo, push16_withBus]
  rfl

/-- An instruction whose meaning is a call answers the two CPU writes of its push, its duration charged. -/
theorem exec_call_wroteBoth {i : Instr} {s : State} {n : Nat} {target : Word}
    (he : exec i s = complete n (callTo target s)) :
    ∃ t, exec i s = .next t ∧
      s.WroteBoth (s.sp - 1) (hiByte s.pc) (s.sp - 2) (loByte s.pc)
        { s with sp := s.sp - 2, pc := target, cpuCycles := s.cpuCycles + n } t :=
  exec_wroteBoth he (callTo_withBus target s)

/-! ## The obligations -/

/-- Settles O31: each call is one push and one jump; a conditional one is that or its base duration alone. -/
theorem callsAndRestarts : Obligations.CallsAndRestarts := by
  unfold Obligations.CallsAndRestarts
  intro s
  refine ⟨fun n => ⟨encodedBy_word n (by decide) rfl, exec_call_wroteBoth (exec_callN16 n s)⟩,
    fun cc n => ⟨encodedBy_callCond cc n, ?conditional⟩,
    fun y => ⟨encodedBy_rst y, exec_call_wroteBoth (exec_rst y s)⟩⟩
  case conditional =>
    have hexec := (exec_callCond cc n s).trans (complete_branchIf cc 12 12 (callTo n) s)
    split_ifs with htaken
    · exact exec_call_wroteBoth (hexec.trans (if_pos htaken))
    · exact hexec.trans (if_neg htaken)

/-- Settles O30: each form writes PC alone; a conditional one is that or its base duration alone. -/
theorem jumps : Obligations.Jumps := by
  unfold Obligations.Jumps
  intro s
  refine ⟨fun n => ⟨encodedBy_word n (by decide) rfl, exec_jpN16 n s⟩,
    fun cc n => ⟨encodedBy_jpCond cc n, ?absolute⟩,
    ⟨encodedBy_whole (by decide) rfl, exec_jpHl s⟩,
    fun e => ⟨encodedBy_byte e (by decide) rfl, ?relative⟩,
    fun cc e => ⟨encodedBy_jrCond cc e, ?relativeConditional⟩⟩
  case absolute => exact (exec_jpCond cc n s).trans (complete_branchIf cc 4 12 (jumpTo n) s)
  case relative => rw [exec_jrE8, jumpBy_eq, complete, State.charge]
  case relativeConditional => rw [exec_jrCond, complete_branchIf, jumpBy_eq]; rfl

/-- Settles O32: each form pops PC; a conditional one does that or its base duration alone. -/
theorem returns : Obligations.Returns := by
  unfold Obligations.Returns
  intro s
  refine ⟨⟨encodedBy_whole (by decide) rfl, exec_ret s⟩, fun cc => ⟨encodedBy_retCond cc, ?conditional⟩,
    encodedBy_whole (by decide) rfl, exec_reti s⟩
  case conditional => exact (exec_retCond cc s).trans (complete_branchIf cc 12 8 returnToCaller s)

end Sys2Proof.Machine
end

section
/-! Control of the CPU (R390–R394) and the panic of the unused opcodes (R396): each is the named fields and its duration. -/

namespace Sys2Proof.Machine

/-- Settles O33: each is a whole slot of the standard table, or one with an ignored byte, and completes in 4 T-cycles. -/
theorem cpuControl : Obligations.CpuControl := by
  unfold Obligations.CpuControl
  intro s
  exact ⟨⟨encodedBy_whole (by decide) rfl, exec_nop s⟩,
    ⟨encodedBy_whole (by decide) rfl, exec_halt s⟩,
    fun n => ⟨encodedBy_byte n (by decide) rfl, exec_stop n s⟩,
    ⟨encodedBy_whole (by decide) rfl, exec_di s⟩,
    ⟨encodedBy_whole (by decide) rfl, exec_ei s⟩⟩

/-- Settles O35: `exec_unused` is the panic at the byte before PC, and no duration is charged. -/
theorem unusedOpcodesPanic : Obligations.UnusedOpcodesPanic := by
  unfold Obligations.UnusedOpcodesPanic
  exact fun u s => ⟨encodedBy_unused u, exec_unused u s⟩

end Sys2Proof.Machine
end

section
/-! The delay of EI (R394, R412, R457): while the latch is set the poll dispatches nothing, and it stays set until the CPU's
next instruction. -/

namespace Sys2Proof.Machine

/-- Where the CPU is and whether an interrupt may be taken: IME and the latch, PC, SP and the run state. -/
def State.control (s : State) : (Bool × Bool) × Word × Word × RunState := (s.interruptEnable, s.pc, s.sp, s.run)

theorem control_eq_iff (s t : State) :
    t.control = s.control ↔
      (t.ime = s.ime ∧ t.eiLatch = s.eiLatch) ∧ t.pc = s.pc ∧ t.sp = s.sp ∧ t.run = s.run := by
  simp only [State.control, Prod.mk_inj, interruptEnable_eq_iff]

/-! ## Before the CPU's slot -/

/-- Before the CPU's slot, where the host asks for no reset, only memory, the joypad and the queue change (R421, R428). -/
theorem beforeCpu_eq {s t : State} (hreset : s.input.host.reset = false) (he : s.beforeCpu = .next t) :
    t = { s with mem := t.mem, joyAction := t.joyAction, joyDpad := t.joyDpad, inputs := t.inputs } := by
  unfold State.beforeCpu State.hostSlot State.hostReset State.hostJoypad at he
  rw [hreset, if_neg Bool.false_ne_true] at he
  split at he
  · obtain rfl := Host.Outcome.next.inj he
    rw [envTimerSlot_eq]
    rfl
  · split at he
    · obtain rfl := Host.Outcome.next.inj he
      rw [envTimerSlot_eq]
      rfl
    · cases he

/-- With nothing queued, nothing happens before the CPU's slot. -/
theorem beforeCpu_of_idle {s : State} (h : s.inputs = []) : s.beforeCpu = .next s := by
  have hdrop : s.dropInput = s := by rw [State.dropInput, h, List.tail_nil, ← h]
  unfold State.beforeCpu State.input
  rw [hdrop, h]
  rfl

/-! ## The CPU's slot -/

/-- A CPU that is ahead of the master count does nothing (R412). -/
theorem cpuTick_of_ahead {s : State} (h : s.master < s.cpuCycles) : s.cpuTick = .next s := by
  unfold State.cpuTick
  rw [if_pos h, ite_self]

/-- A running CPU that is not ahead executes one instruction (R411). -/
theorem cpuTick_of_running {s : State} (hr : s.run = .running) (hc : s.cpuCycles ≤ s.master) :
    s.cpuTick = s.executeOne := by
  unfold State.cpuTick
  rw [if_neg (by simp [hr]), if_neg (Nat.not_lt.2 hc), if_pos hr]

/-- An instruction of one byte is fetched with PC one further (R414). -/
theorem fetchInstr_of_whole {s : State} {i : Instr} (hp : s.memRead s.pc ≠ 0xCB)
    (h : stdSlot (s.memRead s.pc) = .whole i) : s.fetchInstr = (i, { s with pc := s.pc + 1 }) := by
  have hp' : ¬ s.memRead s.pc = prefixByte := hp
  unfold State.fetchInstr State.fetch8
  simp only [if_neg hp', h]

/-- `EI` at PC: the latch, cleared before the fetch, is set again (R394, R413). -/
theorem executeOne_ei {s : State} (h : s.memRead s.pc = 0xFB) :
    s.executeOne = .next ((enableInterrupts { s with eiLatch := false, pc := s.pc + 1 }).charge 4) := by
  have hread : ({ s with eiLatch := false } : State).memRead s.pc = 0xFB := h
  have hfetch : ({ s with eiLatch := false } : State).fetchInstr = (.ei, { s with eiLatch := false, pc := s.pc + 1 }) :=
    fetchInstr_of_whole (by rw [hread]; decide) (by rw [hread]; rfl)
  unfold State.executeOne
  rw [hfetch]
  rfl

/-! ## After the CPU's slot -/

/-- While the latch is set the poll does nothing (R457). -/
theorem poll_of_latch {s : State} (h : s.eiLatch = true) : s.poll = s := by
  unfold State.poll
  rw [if_pos h, ite_self]

/-- The slots of the MMU, the PPU and the APU leave the CPU where it is (R422–R424). -/
theorem slots_control (s : State) (apu : ApuDraw) : ((s.mmuTick.ppuTick).envApuSlot apu).control = s.control := by
  rw [envApuSlot_eq, ppuTick_eq, mmuTick_eq]
  rfl

/-- While the latch is set, so does all of the iteration that follows the CPU's slot (R420, R457). -/
theorem afterCpu_control_of_latch {s : State} (apu : ApuDraw) (h : s.eiLatch = true) :
    (s.afterCpu apu).control = s.control := by
  have hslots := slots_control s apu
  obtain ⟨⟨-, hlatch⟩, -⟩ := (control_eq_iff s _).1 hslots
  unfold State.afterCpu
  rw [poll_of_latch (hlatch.trans h)]
  exact hslots

/-! ## The obligation -/

/-- The step that executes EI leaves IME and the latch set and PC one further, and nothing else of where the CPU is. -/
theorem step_ei_control {s t : State} (hq : s.inputs = []) (hr : s.run = .running) (hc : s.cpuCycles ≤ s.master)
    (hop : s.memRead s.pc = 0xFB) (he : step s = .next t) :
    t.control = (enableInterrupts { s with pc := s.pc + 1 }).control := by
  obtain ⟨u, v, hu, hv, rfl⟩ := step_parts he
  obtain rfl : s = u := Host.Outcome.next.inj ((beforeCpu_of_idle hq).symm.trans hu)
  obtain rfl := Host.Outcome.next.inj (((cpuTick_of_running hr hc).trans (executeOne_ei hop)).symm.trans hv)
  exact afterCpu_control_of_latch _ rfl

/-- A step without a reset, with the latch set and the CPU ahead of the master count, leaves the CPU where it is. -/
theorem step_control_of_ahead {s t : State} (hreset : s.input.host.reset = false) (hl : s.eiLatch = true)
    (hc : s.master < s.cpuCycles) (he : step s = .next t) : t.control = s.control := by
  obtain ⟨u, v, hu, hv, rfl⟩ := step_parts he
  have hsu := beforeCpu_eq hreset hu
  have hahead : u.master < u.cpuCycles := by rw [hsu]; exact hc
  obtain rfl : u = v := Host.Outcome.next.inj ((cpuTick_of_ahead hahead).symm.trans hv)
  have hlatch : u.eiLatch = true := by rw [hsu]; exact hl
  exact (afterCpu_control_of_latch _ hlatch).trans (by rw [hsu]; rfl)

/-- Settles O50: EI's own step sets the latch, and while it is set the poll dispatches nothing. -/
theorem eiIsDelayedByOneInstruction : Obligations.EiIsDelayedByOneInstruction := by
  unfold Obligations.EiIsDelayedByOneInstruction
  refine ⟨fun s t hq hr hc hop he => ?executesEi, fun s t hreset hl hc he => ?ahead⟩
  case executesEi =>
    obtain ⟨⟨hime, hlatch⟩, hpc, hsp, hrun⟩ := (control_eq_iff _ t).1 (step_ei_control hq hr hc hop he)
    exact ⟨hime, hlatch, hpc, hsp, hrun.trans hr⟩
  case ahead =>
    obtain ⟨⟨hime, hlatch⟩, hpc, hsp, hrun⟩ := (control_eq_iff s t).1 (step_control_of_ahead hreset hl hc he)
    exact ⟨hlatch.trans hl, hime, hpc, hsp, hrun⟩

end Sys2Proof.Machine
end

section
/-! The environment's two slots (R421, R424, R455): what each makes of every byte of the array. -/

namespace Sys2Proof.Machine

section

variable (s : State) (b : Word)

theorem rawRead_rawWriteIfSome (a : Word) (v : Option Byte) :
    (s.rawWriteIfSome a v).rawRead b = if b = a then v.getD (s.rawRead b) else s.rawRead b := by
  cases v with
  | none => exact (ite_self _).symm
  | some v => exact rawRead_rawWrite s a b v

/-- `setIF(i)`, where the environment raises source `i`, sets one bit of IF alone (R455). -/
theorem rawRead_setIfWhen (raised : Bool) (i : Nat) :
    (s.setIfWhen raised i).rawRead b =
      if b = 0xFF0F then s.rawRead b ||| (if raised then 1#8 <<< i else 0) else s.rawRead b := by
  cases raised with
  | false => simp [State.setIfWhen]
  | true =>
    refine (rawRead_rawWrite s 0xFF0F b _).trans ?_
    by_cases hb : b = 0xFF0F
    · subst hb; rfl
    · rw [if_neg hb, if_neg hb]

/-- Every byte after the Timer slot: DIV, TIMA and IF as drawn, any other as before (R421). -/
theorem rawRead_envTimerSlot (d : TimerDraw) :
    (s.envTimerSlot d).rawRead b =
      if b = 0xFF0F then
        s.rawRead b ||| byteOf (4 * d.timerIrq.toNat + 8 * d.serialIrq.toNat + 16 * d.joypadIrq.toNat)
      else if b = 0xFF05 then d.tima.getD (s.rawRead b)
      else if b = 0xFF04 then d.div.getD (s.rawRead b)
      else s.rawRead b := by
  have hbits (x y z : Bool) :
      ((if x then 1#8 <<< 2 else 0) ||| (if y then 1#8 <<< 3 else 0)) ||| (if z then 1#8 <<< 4 else 0) =
        byteOf (4 * x.toNat + 8 * y.toNat + 16 * z.toNat) := by
    revert x y z; decide
  unfold State.envTimerSlot
  simp only [rawRead_setIfWhen, rawRead_rawWriteIfSome, ← hbits]
  by_cases hif : b = 0xFF0F
  · subst hif
    simp [BitVec.or_assoc]
  · by_cases h05 : b = 0xFF05
    · subst h05; rfl
    · simp only [if_neg hif, if_neg h05]

/-- The APU slot writes the sound registers alone (R424). -/
theorem rawRead_envApuSlot (d : ApuDraw) (hb : ¬ (0xFF10 ≤ b.toNat ∧ b.toNat ≤ 0xFF3F)) :
    (s.envApuSlot d).rawRead b = s.rawRead b := by
  refine List.foldlRecOn (motive := fun t : State => t.rawRead b = s.rawRead b) d.sound State.writeSound rfl ?_
  intro t ht w _
  have hne : b ≠ 0xFF10 + BitVec.ofNat 16 w.1.val := by
    have hw := w.1.isLt
    bv_omega
  exact (rawRead_rawWrite_other t w.2 hne).trans ht

end

/-- Settles O40: each slot by what it makes of every byte; what an empty draw leaves is the state itself. -/
theorem environmentSlots : Obligations.EnvironmentSlots := by
  unfold Obligations.EnvironmentSlots
  refine ⟨fun s d => ⟨envTimerSlot_eq s d, fun a h04 h05 h0F => ?other, ?div, ?tima, ?iff⟩,
    fun s d => ⟨envApuSlot_eq s d, fun a ha => rawRead_envApuSlot s a d ha⟩, fun s => ⟨rfl, rfl⟩⟩
  case other => rw [rawRead_envTimerSlot, if_neg h0F, if_neg h05, if_neg h04]
  case div => exact rawRead_envTimerSlot s 0xFF04 d
  case tima => exact rawRead_envTimerSlot s 0xFF05 d
  case iff => exact rawRead_envTimerSlot s 0xFF0F d

end Sys2Proof.Machine
end

section
/-! The CPU's slot and what stands around it in an iteration (R411–R426, R550). -/

namespace Sys2Proof.Machine

/-! ## The CPU's slot -/

/-- In PANIC the CPU does nothing (R411). -/
theorem cpuTick_of_panic {s : State} (h : s.run = .panic) : s.cpuTick = .next s := by
  unfold State.cpuTick
  rw [if_pos h]

/-- A halted or stopped CPU that is not ahead is charged 4 T-cycles if the parameter says so (R419). -/
theorem cpuTick_of_idle {s : State} (hr : s.run = .halted ∨ s.run = .stopped) (hc : s.cpuCycles ≤ s.master) :
    s.cpuTick = .next { s with cpuCycles := s.cpuCycles + (if s.config.haltCycleSync then 4 else 0) } := by
  have hpanic : s.run ≠ .panic := by rcases hr with hr | hr <;> simp [hr]
  have hrunning : s.run ≠ .running := by rcases hr with hr | hr <;> simp [hr]
  unfold State.cpuTick State.idleTick
  rw [if_neg hpanic, if_neg (Nat.not_lt.2 hc), if_neg hrunning]
  split <;> rfl

/-- Settles O42: the branches of the CPU's tick, but for the one that executes. -/
theorem cycleGateAndIdleTicks : Obligations.CycleGateAndIdleTicks := by
  unfold Obligations.CycleGateAndIdleTicks
  exact fun s => ⟨cpuTick_of_panic, cpuTick_of_ahead, cpuTick_of_idle⟩

/-! ## Fetching an encoded instruction -/

theorem bytesAtPc_getElem (s : State) (k : Nat) (hk : k < s.bytesAtPc.length) :
    s.bytesAtPc[k] = s.memRead (s.pc + BitVec.ofNat 16 k) := by
  have hlength : s.bytesAtPc.length = 3 := rfl
  obtain rfl | rfl | rfl : k = 0 ∨ k = 1 ∨ k = 2 := by omega
  · exact congrArg s.memRead (BitVec.add_zero s.pc).symm
  · rfl
  · exact congrArg s.memRead (BitVec.add_assoc s.pc 1 1)

/-- The first byte of a whole instruction's encoding fixes how many bytes it has (R166). -/
theorem encode_eq_cons {i : Instr} (h : i.wellFormed = true) :
    ∃ op operands, encode i = op :: operands ∧ instrLength op = (encode i).length := by
  have hlength {op : Byte} (hp : op ≠ 0xCB) : instrLength op = (stdSlot op).length := if_neg hp
  obtain ⟨-, rfl, -⟩ | ⟨op2, he, -⟩ | ⟨op, hp, he, hs⟩ | ⟨op, n, f, hp, he, hs, -⟩ | ⟨op, lo, hi, f, hp, he, hs, -⟩ :=
    decode_cases (decodeOfEncodeIsIdentity i [] h)
  · exact nomatch h
  all_goals rw [List.append_nil] at he
  · exact ⟨_, _, he, he ▸ rfl⟩
  all_goals exact ⟨_, _, he, by rw [hlength hp, hs, he]; rfl⟩

/-- Where the bytes at PC are those of a whole instruction, it is fetched, with PC past its bytes (R413–R416). -/
theorem fetchInstr_of_encode {s : State} {i : Instr} (hwf : i.wellFormed = true)
    (hbytes : ∀ k, k < (encode i).length → s.memRead (s.pc + BitVec.ofNat 16 k) = (encode i).getD k 0) :
    s.fetchInstr = (i, { s with pc := s.pc + BitVec.ofNat 16 (encode i).length }) := by
  obtain ⟨op, operands, hencode, hlength⟩ := encode_eq_cons hwf
  have hle : (encode i).length ≤ s.bytesAtPc.length := hlength ▸ (instrLength_bounds op).2
  have hop : s.memRead s.pc = op := by simpa [hencode] using hbytes 0 (by simp [hencode])
  have htake : s.bytesAtPc.take (encode i).length = encode i := by
    refine List.ext_getElem (List.length_take_of_le hle) (fun k _ hk => ?_)
    rw [List.getElem_take, bytesAtPc_getElem, hbytes k hk, List.getD_eq_getElem _ _ hk]
  have hat : encode i ++ s.bytesAtPc.drop (encode i).length = s.bytesAtPc :=
    (congrArg (· ++ _) htake).symm.trans (List.take_append_drop _ _)
  obtain ⟨hdecode, hstate⟩ := fetchInstr_eq_decode s
  have hi := decodeOfEncodeIsIdentity i (s.bytesAtPc.drop (encode i).length) hwf
  rw [hat, hdecode] at hi
  obtain ⟨hfirst, -⟩ := Prod.mk.inj (Except.ok.inj hi)
  exact Prod.ext hfirst (by rw [hstate, hop, hlength])

/-! ## The iteration -/

/-- The slots before the CPU's, as the host's and the environment's part of the queue's head say (R421, R428). -/
theorem beforeCpu_eq_match (s : State) :
    s.beforeCpu =
      match s.input.host.joypad with
      | none => .next ((s.dropInput.hostReset s.input.host.reset).envTimerSlot s.input.timer)
      | some (action, dpad) =>
        if (dpad.getLsbD 0 = false ∧ dpad.getLsbD 1 = false) ∨ (dpad.getLsbD 2 = false ∧ dpad.getLsbD 3 = false) then
          .refused .opposingDirections
        else
          .next (({ s.dropInput.hostReset s.input.host.reset with joyAction := action, joyDpad := dpad }).envTimerSlot
            s.input.timer) := by
  unfold State.beforeCpu State.hostSlot State.hostJoypad
  cases s.input.host.joypad with
  | none => rfl
  | some v =>
    obtain ⟨action, dpad⟩ := v
    simp only [← dpadValid_eq_false_iff]
    cases dpadValid dpad <;> rfl

/-- A running CPU that is not ahead runs the instruction whose bytes are at PC, with the latch cleared (R413). -/
theorem cpuTick_of_encode {s : State} {i : Instr} (hr : s.run = .running) (hc : s.cpuCycles ≤ s.master)
    (hwf : i.wellFormed = true)
    (hbytes : ∀ k, k < (encode i).length → s.memRead (s.pc + BitVec.ofNat 16 k) = (encode i).getD k 0) :
    s.cpuTick = exec i { s with eiLatch := false, pc := s.pc + BitVec.ofNat 16 (encode i).length } := by
  have hfetch := fetchInstr_of_encode (s := { s with eiLatch := false }) hwf hbytes
  rw [cpuTick_of_running hr hc, State.executeOne, hfetch]

/-- Settles O41: the iteration is its three parts by definition; the CPU's is `cpuTick_of_encode`, and what stands before
it is `beforeCpu_eq_match`. -/
theorem stepRunsTheDecodedInstruction : Obligations.StepRunsTheDecodedInstruction := by
  unfold Obligations.StepRunsTheDecodedInstruction
  refine ⟨fun s t i hb hr hc hwf hbytes => ?decoded, fun s => beforeCpu_of_idle,
    fun s => ⟨rfl, rfl, ⟨rfl, rfl⟩, beforeCpu_eq_match s⟩, fun s apu => rfl⟩
  case decoded =>
    rw [step, State.iteration, hb, Result.andThen, cpuTick_of_encode hr hc hwf hbytes]

end Sys2Proof.Machine
end

section
/-! The interrupt poll (R457–R461): the source it takes, and what taking it leaves. -/

namespace Sys2Proof.Machine

/-- The poll changes nothing in PANIC, while the latch is set, and while IME is clear (R457). -/
theorem poll_of_masked {s : State} (h : s.run = .panic ∨ s.eiLatch = true ∨ s.ime = false) : s.poll = s := by
  unfold State.poll
  rcases h with h | h | h <;> simp [h]

/-- Otherwise it takes the first request, if there is one (R457). -/
theorem poll_of_unmasked {s : State} (hr : s.run ≠ .panic) (hl : s.eiLatch = false) (hi : s.ime = true) :
    s.poll = ((firstRequest (s.rawRead 0xFFFF) (s.rawRead 0xFF0F)).map s.takeInterrupt).getD s := by
  unfold State.poll
  simp only [if_neg hr, hl, hi, Bool.false_eq_true, if_false, Bool.not_true]
  cases firstRequest (s.rawRead 0xFFFF) (s.rawRead 0xFF0F) <;> rfl

/-- The sources are tried in rising order (R458). -/
theorem firstRequest_eq_find (ie iff : Byte) :
    firstRequest ie iff = (List.range 5).find? (fun i => ie.getLsbD i && iff.getLsbD i) := rfl

theorem requested_iff (s : State) (i : Nat) :
    s.requested i ↔ ((s.rawRead 0xFFFF).getLsbD i && (s.rawRead 0xFF0F).getLsbD i) = true :=
  (Bool.and_eq_true_iff ..).symm

/-- The first request is the lowest source that is enabled and pending (R458). -/
theorem firstRequest_eq_some {s : State} {i : Nat} (hi : i < 5) (h : s.requested i) (hlow : ∀ j, j < i → ¬ s.requested j) :
    firstRequest (s.rawRead 0xFFFF) (s.rawRead 0xFF0F) = some i := by
  simp only [requested_iff] at h hlow
  rw [firstRequest_eq_find, List.find?_range_eq_some]
  exact ⟨h, List.mem_range.2 hi, fun j hj => by simpa only [Bool.not_eq_true, Bool.not_eq_true'] using hlow j hj⟩

/-- With no source enabled and pending there is none. -/
theorem firstRequest_eq_none {s : State} (h : ∀ j, j < 5 → ¬ s.requested j) :
    firstRequest (s.rawRead 0xFFFF) (s.rawRead 0xFF0F) = none := by
  simp only [requested_iff] at h
  rw [firstRequest_eq_find, List.find?_range_eq_none]
  exact fun j hj => by simpa only [Bool.not_eq_true, Bool.not_eq_true'] using h j hj

/-- Clearing a set bit of a byte, in numbers. -/
theorem clearBit_eq_byteOf : ∀ i < 5, ∀ v : Byte, v.getLsbD i = true → v &&& ~~~(1#8 <<< i) = byteOf (v.toNat - 2 ^ i) := by
  decide

theorem interruptVector_eq (i : Nat) : interruptVector i = BitVec.ofNat 16 (0x40 + 8 * i) := by
  rw [BitVec.ofNat_add, BitVec.ofNat_mul]
  rfl

/-- Taking an interrupt is the two CPU writes of its push, with the IF bit cleared before them, beside the registers
(R457, R460, R461). -/
theorem takeInterrupt_withBus (s : State) (i : Nat) :
    s.takeInterrupt i =
      ({ s with sp := s.sp - 2, ime := false, pc := interruptVector i, run := .running,
                cpuCycles := s.cpuCycles + 20 } : State).withBus
        (((s.rawWrite 0xFF0F (s.rawRead 0xFF0F &&& ~~~(1#8 <<< i))).memWrite (s.sp - 1) (hiByte s.pc)).memWrite (s.sp - 2)
          (loByte s.pc)) := by
  have hpush (t : State) (v : Word) :
      ({ t with ime := false } : State).push16 v =
        ({ t with sp := t.sp - 2, ime := false } : State).withBus
          ((t.memWrite (t.sp - 1) (hiByte v)).memWrite (t.sp - 2) (loByte v)) := by
    rw [push16_withIme, push16_withBus]
    rfl
  exact congrArg (fun t : State => ({ t with pc := interruptVector i, run := .running } : State).charge 20)
    (hpush (s.rawWrite 0xFF0F (s.rawRead 0xFF0F &&& ~~~(1#8 <<< i))) s.pc)

/-- Settles O49: the first request is the lowest; taking it is two CPU writes. -/
theorem pollTakesTheHighestPriority : Obligations.PollTakesTheHighestPriority := by
  unfold Obligations.PollTakesTheHighestPriority
  refine ⟨fun s i hr hl hime hi hreq hlow => ?taken, fun s h => ?idle⟩
  case taken =>
    have hpoll : s.poll = s.takeInterrupt i := by
      rw [poll_of_unmasked hr hl hime, firstRequest_eq_some hi hreq hlow]
      rfl
    rw [hpoll, ← clearBit_eq_byteOf i hi _ hreq.2, ← interruptVector_eq]
    exact wroteBoth_withBus (takeInterrupt_withBus s i)
  case idle =>
    by_cases hmask : s.run = .panic ∨ s.eiLatch = true ∨ s.ime = false
    · exact poll_of_masked hmask
    · simp only [not_or, Bool.not_eq_true, Bool.not_eq_false] at hmask
      obtain ⟨hr, hl, hime⟩ := hmask
      have hnone : ∀ j, j < 5 → ¬ s.requested j := by simpa [hr, hl, hime] using h
      rw [poll_of_unmasked hr hl hime, firstRequest_eq_none hnone]
      rfl

end Sys2Proof.Machine
end

section
/-! What a step keeps: the master count apart from its quantum of 4 (R426), and the CPU where it executes nothing and the
poll takes nothing (R411, R419, R451, R464). -/

namespace Sys2Proof.Machine

/-! ## The master count -/

/-- No slot of an iteration writes the master count. -/
theorem master_slotClosed (m : Nat) : SlotClosed (fun s => s.master = m) where
  raw _ _ _ _ h := h
  dmaSource _ _ h := h
  dmaStart _ h := h
  lengths _ _ h := h
  reg s r v h := (setReg8_master s r v).trans h
  f _ _ _ h := h
  sp _ _ h := h
  pc _ _ h := h
  ime _ _ h := h
  latch _ _ h := h
  cycles _ _ h := h
  frameZero _ h := h
  frameAdvance _ h := h
  window _ _ h := h
  bgLine _ _ _ _ h := h
  backLine _ _ _ _ h := h
  backBlank _ h := h
  front _ h := h
  halt _ _ h := h
  stop _ _ h := h
  panic _ _ _ h := h
  wake _ _ h := h
  dmaTick _ _ h := h
  joypad _ _ _ _ h := h
  dropInput _ h := h

/-- Before the CPU's slot only the host's reset writes the master count. -/
theorem beforeCpu_master {s t : State} (he : s.beforeCpu = .next t) :
    t.master = if s.input.host.reset then 0 else s.master := by
  have hslot (u : State) : (u.envTimerSlot s.input.timer).master = u.master := by rw [envTimerSlot_eq]
  have hreset (r : Bool) : (s.dropInput.hostReset r).master = if r then 0 else s.master := by cases r <;> rfl
  rw [beforeCpu_eq_match] at he
  split at he
  · exact Host.Outcome.next.inj he ▸ (hslot _).trans (hreset _)
  · split_ifs at he
    exact Host.Outcome.next.inj he ▸ (hslot _).trans (hreset _)

/-- Settles O43: no slot writes the master count but the host's, which may reset it; the iteration ends with 4 more. -/
theorem masterCountAdvancesByFour : Obligations.MasterCountAdvancesByFour := by
  unfold Obligations.MasterCountAdvancesByFour
  intro s t he
  obtain ⟨u, v, hu, hv, rfl⟩ := step_parts he
  have hkeep := master_slotClosed u.master
  obtain ⟨w, hw, hafter⟩ := hkeep.afterCpu s.input.apu (hkeep.cpuTick rfl hv)
  rw [hafter, ← beforeCpu_master hu]
  exact congrArg (· + 4) hw

/-! ## The CPU's own part of the state -/

/-- The CPU's own part of the state but for its cycle count (R30–R43). -/
structure CpuPart where
  a : Byte
  f : Byte
  b : Byte
  c : Byte
  d : Byte
  e : Byte
  h : Byte
  l : Byte
  sp : Word
  pc : Word
  run : RunState
  ime : Bool
  eiLatch : Bool
  panicInfo : Option PanicInfo

/-- That part of a state. -/
def State.cpuPart (s : State) : CpuPart :=
  { a := s.a, f := s.f, b := s.b, c := s.c, d := s.d, e := s.e, h := s.h, l := s.l, sp := s.sp, pc := s.pc, run := s.run,
    ime := s.ime, eiLatch := s.eiLatch, panicInfo := s.panicInfo }

theorem cpuPart_eq_iff (s t : State) :
    t.cpuPart = s.cpuPart ↔
      t.a = s.a ∧ t.f = s.f ∧ t.b = s.b ∧ t.c = s.c ∧ t.d = s.d ∧ t.e = s.e ∧ t.h = s.h ∧ t.l = s.l ∧ t.sp = s.sp ∧
        t.pc = s.pc ∧ t.run = s.run ∧ t.ime = s.ime ∧ t.eiLatch = s.eiLatch ∧ t.panicInfo = s.panicInfo := by
  simp only [State.cpuPart, CpuPart.mk.injEq]

/-- The poll takes nothing, whatever is requested (R457). -/
def CpuPart.masked (p : CpuPart) : Prop := p.run = .panic ∨ p.eiLatch = true ∨ p.ime = false

/-- Before the CPU's slot, where the host asks for no reset, nothing writes the CPU's part or its cycles. -/
theorem beforeCpu_cpuPart {s t : State} (hreset : s.input.host.reset = false) (he : s.beforeCpu = .next t) :
    t.cpuPart = s.cpuPart ∧ t.cpuCycles = s.cpuCycles := by
  rw [beforeCpu_eq hreset he]
  exact ⟨rfl, rfl⟩

/-- A CPU that is not running is charged cycles at most (R411, R419). -/
theorem cpuTick_cpuPart {s t : State} (hr : s.run ≠ .running) (he : s.cpuTick = .next t) : t.cpuPart = s.cpuPart := by
  unfold State.cpuTick State.idleTick at he
  rw [if_neg hr] at he
  split_ifs at he
  all_goals exact Host.Outcome.next.inj he ▸ rfl

/-- After the CPU's slot nothing writes the CPU's part or its cycles where the poll takes nothing (R457). -/
theorem afterCpu_cpuPart_of_masked {s : State} (apu : ApuDraw) (h : s.cpuPart.masked) :
    (s.afterCpu apu).cpuPart = s.cpuPart ∧ (s.afterCpu apu).cpuCycles = s.cpuCycles := by
  have hslots : ((s.mmuTick.ppuTick).envApuSlot apu).cpuPart = s.cpuPart ∧
      ((s.mmuTick.ppuTick).envApuSlot apu).cpuCycles = s.cpuCycles := by
    rw [envApuSlot_eq, ppuTick_eq, mmuTick_eq]
    exact ⟨rfl, rfl⟩
  have hmasked : ((s.mmuTick.ppuTick).envApuSlot apu).cpuPart.masked := hslots.1 ▸ h
  unfold State.afterCpu
  rw [poll_of_masked hmasked]
  exact hslots

/-- A step without a reset, of a CPU that is not running and whose poll takes nothing, keeps the CPU's part. -/
theorem step_cpuPart {s t : State} (hr : s.run ≠ .running) (hmasked : s.cpuPart.masked)
    (hreset : s.input.host.reset = false) (he : step s = .next t) : t.cpuPart = s.cpuPart := by
  obtain ⟨u, v, hu, hv, rfl⟩ := step_parts he
  obtain ⟨hsu, -⟩ := beforeCpu_cpuPart hreset hu
  have huv : v.cpuPart = u.cpuPart := cpuTick_cpuPart ((congrArg CpuPart.run hsu).trans_ne hr) hv
  have hsv := huv.trans hsu
  exact (afterCpu_cpuPart_of_masked _ (hsv ▸ hmasked)).1.trans hsv

/-- A step without a reset, of a CPU in PANIC, charges it nothing (R411, R451). -/
theorem step_cpuCycles_of_panic {s t : State} (hr : s.run = .panic) (hreset : s.input.host.reset = false)
    (he : step s = .next t) : t.cpuCycles = s.cpuCycles := by
  obtain ⟨u, v, hu, hv, rfl⟩ := step_parts he
  obtain ⟨hsu, hcycles⟩ := beforeCpu_cpuPart hreset hu
  have hpanic : u.run = .panic := (congrArg CpuPart.run hsu).trans hr
  obtain rfl : u = v := Host.Outcome.next.inj ((cpuTick_of_panic hpanic).symm.trans hv)
  exact (afterCpu_cpuPart_of_masked _ (.inl hpanic)).2.trans hcycles

/-- Settles O46: a halted or stopped CPU is not running, and the poll takes nothing while IME is clear. -/
theorem haltWithInterruptsDisabledHangs : Obligations.HaltWithInterruptsDisabledHangs := by
  unfold Obligations.HaltWithInterruptsDisabledHangs
  intro s t hr hime hreset he
  have hrunning : s.run ≠ .running := by rcases hr with hr | hr <;> simp [hr]
  obtain ⟨ha, hf, hb, hc, hd, he, hh, hl, hsp, hpc, hrun, hime', hlatch, hinfo⟩ :=
    (cpuPart_eq_iff s t).1 (step_cpuPart hrunning (.inr (.inr hime)) hreset he)
  exact ⟨hrun, hime'.trans hime, hpc, hsp, ha, hf, hb, hc, hd, he, hh, hl, hlatch, hinfo⟩

end Sys2Proof.Machine
end

section
/-! The driver (R427, R429): a run by the run states at its frame boundaries, and the queue as the beginning of what the
outside does. -/

namespace Sys2Proof.Machine

/-! ## One frame, and the rest of the run -/

/-- The state at the boundary of the first frame, and then the rest of the frames. -/
theorem iterateUnder_frames_succ {outside : Outside} {s u : State} (n : Nat)
    (hu : iterateUnder outside iterationsPerFrame s = .next u) :
    iterateUnder outside (17556 * (n + 1)) s = iterateUnder (outside.after iterationsPerFrame) (17556 * n) u := by
  rw [Nat.mul_succ, Nat.add_comm, iterateUnder_add]
  exact congrArg (fun r => Result.andThen r (iterateUnder (outside.after iterationsPerFrame) (17556 * n))) hu

/-- Where the iterations of more frames lead to a state, those of the first frame do. -/
theorem exists_firstFrame {outside : Outside} {s t : State} {n : Nat}
    (ht : iterateUnder outside (17556 * (n + 1)) s = .next t) :
    ∃ u, iterateUnder outside iterationsPerFrame s = .next u := by
  rw [Nat.mul_succ, Nat.add_comm, iterateUnder_add] at ht
  change Result.andThen (iterateUnder outside iterationsPerFrame s) _ = _ at ht
  cases hu : iterateUnder outside iterationsPerFrame s with
  | next u => exact ⟨u, rfl⟩
  | fault x => rw [hu] at ht; cases ht
  | refused x => rw [hu] at ht; cases ht

/-- A run of at least one frame stops where the rest of it does, its first frame going on. -/
theorem driverRun_succ_stopped_iff (outside : Outside) (s t : State) (n : Nat) :
    driverRun outside (n + 1) s = .stopped t ↔
      ∃ u, iterateUnder outside iterationsPerFrame s = .next u ∧ u.run ≠ .panic ∧
        driverRun (outside.after iterationsPerFrame) n u = .stopped t := by
  simp only [← and_assoc, ← driverFrame_goesOn_iff]
  cases h : driverFrame outside s with
  | goesOn u => simp [driverRun_of_goesOn n h]
  | panicked info u => simp [driverRun_of_panicked n h]
  | noMove => simp [driverRun_of_noMove n h]

/-- It ends panicked in its first frame, or where the rest of it does. -/
theorem driverRun_succ_panicked_iff (outside : Outside) (s t : State) (info : Option PanicInfo) (n : Nat) :
    driverRun outside (n + 1) s = .panicked info t ↔
      (iterateUnder outside iterationsPerFrame s = .next t ∧ t.run = .panic ∧ info = t.panicInfo) ∨
      ∃ u, iterateUnder outside iterationsPerFrame s = .next u ∧ u.run ≠ .panic ∧
        driverRun (outside.after iterationsPerFrame) n u = .panicked info t := by
  simp only [← driverFrame_panicked_iff]
  simp only [← and_assoc, ← driverFrame_goesOn_iff]
  cases h : driverFrame outside s with
  | goesOn u => simp [driverRun_of_goesOn n h]
  | panicked info u => simp [driverRun_of_panicked n h]
  | noMove => simp [driverRun_of_noMove n h]

/-! ## The frame boundaries -/

/-- No frame boundary after the first iteration and before boundary `n` is in PANIC. -/
def State.noPanicBefore (outside : Outside) (s : State) (n : Nat) : Prop :=
  ∀ (k : Nat) (u : State), 1 ≤ k → k < n → iterateUnder outside (17556 * k) s = .next u → u.run ≠ .panic

theorem noPanicBefore_one (outside : Outside) (s : State) : s.noPanicBefore outside 1 :=
  fun _ _ h1 hk _ => absurd h1 (Nat.not_le.2 hk)

/-- The first boundary, and then those of the rest of the run. -/
theorem noPanicBefore_succ_iff {outside : Outside} {s u : State} {n : Nat} (hn : 1 ≤ n)
    (hu : iterateUnder outside iterationsPerFrame s = .next u) :
    s.noPanicBefore outside (n + 1) ↔ u.run ≠ .panic ∧ u.noPanicBefore (outside.after iterationsPerFrame) n := by
  constructor
  · intro h
    refine ⟨h 1 u le_rfl (Nat.lt_succ_of_le hn) hu, fun k v h1 hk hv => ?_⟩
    exact h (k + 1) v (Nat.le_add_left 1 k) (Nat.succ_lt_succ hk) ((iterateUnder_frames_succ k hu).trans hv)
  · rintro ⟨hfirst, hrest⟩ k v h1 hk hv
    obtain ⟨j, rfl⟩ : ∃ j, k = j + 1 := ⟨k - 1, by omega⟩
    rw [iterateUnder_frames_succ j hu] at hv
    cases j with
    | zero => exact Host.Outcome.next.inj hv ▸ hfirst
    | succ j => exact hrest (j + 1) v (Nat.le_add_left 1 j) (Nat.lt_of_succ_lt_succ hk) hv

/-- A run stops exactly where its iterations lead, no boundary up to there in PANIC (R427, R429). -/
theorem driverRun_stopped_iff (outside : Outside) (s : State) (n : Nat) (t : State) :
    driverRun outside n s = .stopped t ↔
      iterateUnder outside (17556 * n) s = .next t ∧ s.noPanicBefore outside (n + 1) := by
  induction n generalizing outside s with
  | zero =>
    rw [driverRun_zero, Nat.mul_zero, iterateUnder_zero]
    simp [noPanicBefore_one]
  | succ n ih =>
    rw [driverRun_succ_stopped_iff]
    constructor
    · rintro ⟨u, hu, hrun, hrest⟩
      obtain ⟨ht, hsafe⟩ := (ih _ _).1 hrest
      exact ⟨(iterateUnder_frames_succ n hu).trans ht,
        (noPanicBefore_succ_iff (Nat.le_add_left 1 n) hu).2 ⟨hrun, hsafe⟩⟩
    · rintro ⟨ht, hsafe⟩
      obtain ⟨u, hu⟩ := exists_firstFrame ht
      obtain ⟨hrun, hrest⟩ := (noPanicBefore_succ_iff (Nat.le_add_left 1 n) hu).1 hsafe
      exact ⟨u, hu, hrun, (ih _ _).2 ⟨(iterateUnder_frames_succ n hu).symm.trans ht, hrest⟩⟩

/-- A run ends panicked exactly at the first boundary in PANIC, with its report (R429). -/
theorem driverRun_panicked_iff (outside : Outside) (s : State) (n : Nat) (info : Option PanicInfo) (t : State) :
    driverRun outside n s = .panicked info t ↔
      ∃ k, 1 ≤ k ∧ k ≤ n ∧ iterateUnder outside (17556 * k) s = .next t ∧ t.run = .panic ∧ info = t.panicInfo ∧
        s.noPanicBefore outside k := by
  induction n generalizing outside s with
  | zero =>
    rw [driverRun_zero]
    constructor
    · exact nofun
    · rintro ⟨k, h1, hk, -⟩
      omega
  | succ n ih =>
    rw [driverRun_succ_panicked_iff]
    constructor
    · rintro (⟨ht, hrun, hinfo⟩ | ⟨u, hu, hrun, hrest⟩)
      · exact ⟨1, le_rfl, Nat.le_add_left 1 n, ht, hrun, hinfo, noPanicBefore_one outside s⟩
      · obtain ⟨k, h1, hk, ht, hpanic, hinfo, hsafe⟩ := (ih _ _).1 hrest
        exact ⟨k + 1, Nat.le_add_left 1 k, Nat.succ_le_succ hk, (iterateUnder_frames_succ k hu).trans ht, hpanic, hinfo,
          (noPanicBefore_succ_iff h1 hu).2 ⟨hrun, hsafe⟩⟩
    · rintro ⟨k, h1, hk, ht, hpanic, hinfo, hsafe⟩
      obtain ⟨j, rfl⟩ : ∃ j, k = j + 1 := ⟨k - 1, by omega⟩
      cases j with
      | zero => exact .inl ⟨ht, hpanic, hinfo⟩
      | succ j =>
        obtain ⟨u, hu⟩ := exists_firstFrame ht
        obtain ⟨hrun, hrest⟩ := (noPanicBefore_succ_iff (Nat.le_add_left 1 j) hu).1 hsafe
        exact .inr ⟨u, hu, hrun, (ih _ _).2 ⟨j + 1, Nat.le_add_left 1 j, Nat.le_of_succ_le_succ hk,
          (iterateUnder_frames_succ _ hu).symm.trans ht, hpanic, hinfo, hrest⟩⟩

/-- A run never ends exactly when every boundary is reached and none is in PANIC (R429). -/
theorem nonTerminating_iff (outside : Outside) (s : State) :
    s.NonTerminating outside ↔
      ∀ k, ∃ u, iterateUnder outside (17556 * k) s = .next u ∧ (1 ≤ k → u.run ≠ .panic) := by
  unfold State.NonTerminating
  simp only [driverRun_stopped_iff]
  constructor
  · intro h k
    obtain ⟨u, hu, hsafe⟩ := h k
    exact ⟨u, hu, fun h1 => hsafe k u h1 (Nat.lt_succ_self k) hu⟩
  · intro h n
    obtain ⟨t, ht, -⟩ := h n
    refine ⟨t, ht, fun k u h1 _ hu => ?_⟩
    obtain ⟨v, hv, hrun⟩ := h k
    exact Host.Outcome.next.inj (hv.symm.trans hu) ▸ hrun h1

/-! ## The queue -/

/-- A state's queue is nothing to what the outside does: after the iterations only the queue can differ. -/
theorem iterateUnder_queued (outside : Outside) (n : Nat) (s : State) (q r : List Input) :
    Result.queued (iterateUnder outside n (s.queued q)) r = Result.queued (iterateUnder outside n s) r := by
  cases n with
  | zero => rfl
  | succ n => rw [iterateUnder_first, iterateUnder_first]; rfl

/-- The steps of a state with a queue are the iterations under what it says, and leave the rest of it (R431). -/
theorem iterate_eq_iterateUnder (n : Nat) (s : State) :
    iterate n s = Result.queued (iterateUnder (fun k => s.inputs.getD k {}) n s) (s.inputs.drop n) := by
  induction n generalizing s with
  | zero => rfl
  | succ n ih =>
    have hhead : s.inputs.getD 0 {} = s.inputs.headD {} := by cases s.inputs <;> rfl
    have htail : Outside.after (fun k => s.inputs.getD k {}) 1 = fun k => s.inputs.tail.getD k {} := by
      funext k
      rw [Outside.after, Nat.add_comm]
      cases s.inputs <;> rfl
    rw [iterate_succ, step_eq_stepGiven, iterateUnder_first, htail, hhead, ← List.drop_tail]
    cases stepGiven (s.inputs.headD {}) s with
    | next t => exact (ih (t.queued s.inputs.tail)).trans (iterateUnder_queued _ n t _ _)
    | fault x => rfl
    | refused x => rfl

/-! ## The obligation -/

/-- Settles O45: PANIC masks the poll; a run by its boundaries; the queue is `iterate_eq_iterateUnder`. -/
theorem panicLastsUntilReset : Obligations.PanicLastsUntilReset := by
  unfold Obligations.PanicLastsUntilReset
  refine ⟨fun s t hr hreset he => ?keeps, fun outside s n t => ?stopped, driverRun_panicked_iff, nonTerminating_iff,
    fun config rom outside n => ⟨fun h => ?short, fun h => ⟨_, powerOn_long config h, ?long⟩⟩,
    fun s n => iterate_eq_iterateUnder n s⟩
  case keeps =>
    have hcycles := step_cpuCycles_of_panic hr hreset he
    obtain ⟨ha, hf, hb, hc, hd, he, hh, hl, hsp, hpc, hrun, hime, hlatch, hinfo⟩ :=
      (cpuPart_eq_iff s t).1 (step_cpuPart (by simp [hr]) (.inl hr) hreset he)
    exact ⟨hrun.trans hr, hinfo, hpc, hsp, ha, hf, hb, hc, hd, he, hh, hl, hime, hlatch, hcycles⟩
  case stopped =>
    rw [driverRun_stopped_iff]
    simp only [State.noPanicBefore, Nat.lt_succ_iff]
  case short => rw [runFromPowerOn, powerOn_short config h]
  case long => rw [runFromPowerOn, powerOn_long config h]

end Sys2Proof.Machine
end

section
/-! One PPU tick (R490–R502): the mode by its number, what a transition makes of every byte, and what it does to the frame
buffers. -/

namespace Sys2Proof.Machine

/-! ## Modes by their numbers -/

/-- The number of a mode (R57, R492). -/
def PpuMode.number (m : PpuMode) : Nat := m.code.toNat

theorem PpuMode.number_inj {m n : PpuMode} : m.number = n.number ↔ m = n := by
  cases m <;> cases n <;> decide

theorem modeOf_number (n : Nat) : (modeOf (scanlineOf n) (n % dotsPerLine)).number = modeNumber n := by
  unfold modeOf modeNumber scanlineOf dotsPerLine linesPerFrame visibleLines
  simp only [apply_ite PpuMode.number]
  rfl

/-- STAT shows a mode's number in its low two bits (R57). -/
theorem ofStat_number : ∀ stat : Byte, (PpuMode.ofStat stat).number = stat.toNat % 4 := by decide

/-! ## Before the mode: LY and the coincidence bit -/

/-- A tick up to its mode: LY and the coincidence bit are written (R493, R494). -/
def State.lineShown (s : State) : State :=
  (s.rawWrite 0xFF44 (BitVec.ofNat 8 (scanlineOf s.frameSync))).coincidenceCheck

/-- The coincidence of LYC with the line of the position (R494). -/
def State.coincides (s : State) : Bool := decide ((s.rawRead 0xFF45).toNat = s.frameSync / 456 % 154)

theorem sameButMem_lineShown (s : State) : s.SameButMem s.lineShown :=
  ((State.SameButMem.refl s).rawWrite _ _).rawWrite _ _

theorem ly_eq_lyc_iff (s : State) :
    byteOf (s.frameSync / 456 % 154) = s.rawRead 0xFF45 ↔ (s.rawRead 0xFF45).toNat = s.frameSync / 456 % 154 := by
  rw [← BitVec.toNat_inj, toNat_byteOf, Nat.mod_eq_of_lt (by omega), eq_comm]

theorem rawRead_lineShown (s : State) (b : Word) :
    s.lineShown.rawRead b =
      if b = 0xFF41 then (s.rawRead 0xFF41 &&& 0xFB) ||| (if s.coincides then 0x04 else 0x00)
      else if b = 0xFF44 then byteOf (s.frameSync / 456 % 154)
      else s.rawRead b := by
  refine (rawRead_coincidenceRecheck (s.rawWrite 0xFF44 (byteOf (s.frameSync / 456 % 154))) b).trans ?_
  simp only [rawRead_rawWrite, State.coincides, decide_eq_true_eq, ← ly_eq_lyc_iff]
  rfl

/-! ## The transition -/

/-- A transition up to `enterMode`: STAT shows the mode, and its interrupt is raised (R496, R497). -/
def State.modeShown (s : State) (m : PpuMode) : State :=
  (s.rawWrite 0xFF41 ((s.rawRead 0xFF41 &&& ~~~0x03#8) ||| m.code)).statInterruptCheck m

theorem statInterruptCheck_eq (s : State) (m : PpuMode) : s.statInterruptCheck m = s.setIfWhen (s.statCondition m) 1 := rfl

theorem State.SameButMem.modeShown {s t : State} (h : s.SameButMem t) (m : PpuMode) : s.SameButMem (t.modeShown m) :=
  (h.rawWrite _ _).setIfWhen _ 1

/-- Writing low bits of a byte leaves the others. -/
theorem getLsbD_lowBits (v : Byte) {mask low : Byte} {k i : Nat} (hmask : mask.toNat < 2 ^ k) (hlow : low.toNat < 2 ^ k)
    (hi : k ≤ i) : ((v &&& ~~~mask) ||| low).getLsbD i = v.getLsbD i := by
  have hbit (w : Byte) (hw : w.toNat < 2 ^ k) : w.getLsbD i = false :=
    Nat.testBit_lt_two_pow (hw.trans_le (Nat.pow_le_pow_right (by decide) hi))
  by_cases h8 : i < 8
  · simp only [BitVec.getLsbD_or, BitVec.getLsbD_and, BitVec.getLsbD_not, hbit _ hmask, hbit _ hlow, h8, decide_true,
      Bool.not_false, Bool.and_true, Bool.or_false]
  · rw [BitVec.getLsbD_of_ge _ _ (Nat.le_of_not_lt h8), BitVec.getLsbD_of_ge _ _ (Nat.le_of_not_lt h8)]

/-- The source of the STAT interrupt at a transition into the mode of a number (R497). -/
def statSource (stat : Byte) (same : Bool) (mode : Nat) : Bool :=
  (decide (mode = 0) && stat.getLsbD 3) || (decide (mode = 1) && stat.getLsbD 4) ||
    (decide (mode = 2) && stat.getLsbD 5) || (same && stat.getLsbD 6)

theorem statCondition_eq (s : State) (m : PpuMode) :
    s.statCondition m = statSource (s.rawRead 0xFF41) (s.rawRead 0xFF44 == s.rawRead 0xFF45) m.number := by
  unfold State.statCondition statSource
  cases m <;> simp [PpuMode.number, PpuMode.code]

/-- Only bits 6 to 3 of STAT select a source. -/
theorem statSource_congr {v w : Byte} (h : ∀ i, 3 ≤ i → v.getLsbD i = w.getLsbD i) (same : Bool) (mode : Nat) :
    statSource v same mode = statSource w same mode := by
  simp only [statSource, h 3 (by decide), h 4 (by decide), h 5 (by decide), h 6 (by decide)]

/-- Showing a mode in STAT leaves the source that STAT selects. -/
theorem statCondition_modeBits (s : State) (m : PpuMode) :
    (s.rawWrite 0xFF41 ((s.rawRead 0xFF41 &&& ~~~0x03#8) ||| m.code)).statCondition m = s.statCondition m := by
  have hcode : m.code.toNat < 2 ^ 3 := by cases m <;> decide
  rw [statCondition_eq, statCondition_eq, rawRead_rawWrite_same, rawRead_rawWrite_other s _ (by decide),
    rawRead_rawWrite_other s _ (by decide)]
  exact statSource_congr (fun i hi => getLsbD_lowBits _ (by decide) hcode hi) _ _

theorem rawRead_modeShown (s : State) (m : PpuMode) (b : Word) :
    (s.modeShown m).rawRead b =
      if b = 0xFF41 then (s.rawRead 0xFF41 &&& ~~~0x03#8) ||| m.code
      else if b = 0xFF0F then s.rawRead 0xFF0F ||| (if s.statCondition m then 0x02 else 0x00)
      else s.rawRead b := by
  rw [State.modeShown, statInterruptCheck_eq, rawRead_setIfWhen, rawRead_rawWrite, statCondition_modeBits]
  by_cases h41 : b = 0xFF41
  · subst h41; rfl
  · by_cases h0F : b = 0xFF0F
    · subst h0F; rfl
    · simp only [if_neg h41, if_neg h0F]

/-! ## Entering a mode -/

/-- The object pass leaves memory. -/
@[simp] theorem renderObjects_mem (s : State) (ly : Nat) : (s.renderObjects ly).mem = s.mem := by
  unfold State.renderObjects
  split <;> rfl

/-- Entering a mode writes of memory the VBLANK bit of IF alone (R499). -/
theorem enterMode_mem (s : State) (old m : PpuMode) (ly : Nat) :
    (s.enterMode old m ly).mem = (s.setIfWhen (decide (m = .vblank)) 0).mem := by
  cases m with
  | hblank => rfl
  | vblank => rfl
  | oamSearch => unfold State.enterMode State.newFrame; simp only; split <;> rfl
  | pixelTransfer => exact renderObjects_mem (s.renderBackground ly) ly

/-- Every byte after a transition. -/
theorem rawRead_transition (s : State) (old m : PpuMode) (ly : Nat) (b : Word) :
    (s.transition old m ly).rawRead b =
      if b = 0xFF41 then (s.rawRead 0xFF41 &&& ~~~0x03#8) ||| m.code
      else if b = 0xFF0F then
        s.rawRead 0xFF0F ||| (if s.statCondition m then 0x02 else 0x00) ||| (if m = .vblank then 0x01 else 0x00)
      else s.rawRead b := by
  have hmem : (s.transition old m ly).rawRead b = ((s.modeShown m).setIfWhen (decide (m = .vblank)) 0).rawRead b :=
    congrArg (Memory.read · b.toNat) (enterMode_mem (s.modeShown m) old m ly)
  rw [hmem, rawRead_setIfWhen, rawRead_modeShown]
  by_cases h0F : b = 0xFF0F
  · subst h0F
    simp [decide_eq_true_eq]
  · simp only [if_neg h0F]

/-! ## The tick -/

/-- The mode of the position in the frame (R495). -/
def State.ppuMode (s : State) : PpuMode := modeOf (scanlineOf s.frameSync) (s.frameSync % dotsPerLine)

/-- The mode that STAT shows (R57). -/
def State.shownMode (s : State) : PpuMode := PpuMode.ofStat (s.rawRead 0xFF41)

theorem ppuMode_eq_iff (s : State) (m : PpuMode) : s.ppuMode = m ↔ modeNumber s.frameSync = m.number := by
  rw [← PpuMode.number_inj, State.ppuMode, modeOf_number]

theorem shownMode_eq_iff (s : State) (m : PpuMode) : s.shownMode = m ↔ (s.rawRead 0xFF41).toNat % 4 = m.number := by
  rw [← PpuMode.number_inj, State.shownMode, ofStat_number]

theorem ppuMode_eq_shownMode_iff (s : State) :
    s.ppuMode = s.shownMode ↔ modeNumber s.frameSync = (s.rawRead 0xFF41).toNat % 4 := by
  rw [ppuMode_eq_iff, State.shownMode, ofStat_number]

/-- Writing LY and the coincidence bit leaves the mode that STAT shows. -/
theorem shownMode_lineShown (s : State) : s.lineShown.shownMode = s.shownMode := by
  have hbits : ∀ (same : Bool) (stat : Byte),
      PpuMode.ofStat ((stat &&& 0xFB) ||| (if same then 0x04 else 0x00)) = PpuMode.ofStat stat := by
    decide
  rw [State.shownMode, rawRead_lineShown, if_pos rfl, hbits]
  rfl

/-- A tick with the LCD on that enters a mode (R490, R496). -/
theorem ppuTick_of_entered {s : State} (hon : (s.rawRead 0xFF40).getLsbD 7 = true) (h : s.ppuMode ≠ s.shownMode) :
    s.ppuTick =
      { s.lineShown.transition s.shownMode s.ppuMode (scanlineOf s.frameSync) with
        frameSync := (s.frameSync + 4) % 70224 } := by
  unfold State.ppuTick
  rw [if_pos hon, ← shownMode_lineShown]
  rw [← shownMode_lineShown] at h
  unfold State.lcdOnTick
  exact congrArg (fun t : State => { t with frameSync := (s.frameSync + 4) % 70224 }) (if_pos h)

/-- A tick with the LCD on in which the mode stays (R490). -/
theorem ppuTick_of_same {s : State} (hon : (s.rawRead 0xFF40).getLsbD 7 = true) (h : s.ppuMode = s.shownMode) :
    s.ppuTick = { s.lineShown with frameSync := (s.frameSync + 4) % 70224 } := by
  unfold State.ppuTick
  rw [if_pos hon]
  rw [← shownMode_lineShown] at h
  unfold State.lcdOnTick
  exact congrArg (fun t : State => { t with frameSync := (s.frameSync + 4) % 70224 }) (if_neg (not_not.2 h))

/-- A tick with the LCD on moves the position one iteration further (R501). -/
theorem ppuTick_frameSync {s : State} (hon : (s.rawRead 0xFF40).getLsbD 7 = true) :
    s.ppuTick.frameSync = (s.frameSync + 4) % 70224 := by
  by_cases h : s.ppuMode = s.shownMode
  · rw [ppuTick_of_same hon h]
  · rw [ppuTick_of_entered hon h]

/-! ## The tick in memory -/

/-- STAT after a tick: bits 7 to 3 kept, the coincidence, the mode (R494, R496). -/
def State.statAfter (s : State) : Byte :=
  byteOf ((s.rawRead 0xFF41).toNat / 8 * 8 + 4 * s.coincides.toNat + modeNumber s.frameSync)

/-- The source of the STAT interrupt that the tick raises if it enters a mode (R497). -/
def State.statRequest (s : State) : Bool := statSource (s.rawRead 0xFF41) s.coincides (modeNumber s.frameSync)

theorem ppuMode_number (s : State) : s.ppuMode.number = modeNumber s.frameSync := modeOf_number s.frameSync

/-- Where the mode stays, STAT shows it as it is. -/
theorem statAfter_of_same {s : State} (h : s.ppuMode = s.shownMode) :
    (s.rawRead 0xFF41 &&& 0xFB) ||| (if s.coincides then 0x04 else 0x00) = s.statAfter := by
  have hbits : ∀ (same : Bool) (stat : Byte),
      (stat &&& 0xFB) ||| (if same then 0x04 else 0x00) =
        byteOf (stat.toNat / 8 * 8 + 4 * same.toNat + stat.toNat % 4) := by
    decide
  rw [hbits, State.statAfter, (ppuMode_eq_shownMode_iff s).1 h]

/-- Where a mode is entered, its number is written. -/
theorem statAfter_of_entered (s : State) :
    ((s.rawRead 0xFF41 &&& 0xFB) ||| (if s.coincides then 0x04 else 0x00)) &&& ~~~0x03#8 ||| s.ppuMode.code =
      s.statAfter := by
  have hbits (m : PpuMode) : ∀ (same : Bool) (stat : Byte),
      ((stat &&& 0xFB) ||| (if same then 0x04 else 0x00)) &&& ~~~0x03#8 ||| m.code =
        byteOf (stat.toNat / 8 * 8 + 4 * same.toNat + m.number) := by
    cases m <;> decide
  rw [hbits, State.statAfter, ppuMode_number]

/-- The STAT interrupt of the mode entered, once LY and the coincidence bit are written (R497). -/
theorem statCondition_lineShown (s : State) : s.lineShown.statCondition s.ppuMode = s.statRequest := by
  have hstat : s.lineShown.rawRead 0xFF41 = (s.rawRead 0xFF41 &&& 0xFB) ||| (if s.coincides then 0x04 else 0x00) :=
    rawRead_lineShown s 0xFF41
  have hly : s.lineShown.rawRead 0xFF44 = byteOf (s.frameSync / 456 % 154) := rawRead_lineShown s 0xFF44
  have hlyc : s.lineShown.rawRead 0xFF45 = s.rawRead 0xFF45 := rawRead_lineShown s 0xFF45
  have hsame : (s.lineShown.rawRead 0xFF44 == s.lineShown.rawRead 0xFF45) = s.coincides := by
    rw [hly, hlyc, State.coincides, beq_eq_decide]
    simp only [ly_eq_lyc_iff]
  have hcoincidence : (if s.coincides then 0x04 else 0x00 : Byte).toNat < 2 ^ 3 := by split <;> decide
  rw [statCondition_eq, hsame, ppuMode_number, hstat]
  exact statSource_congr (fun i hi => getLsbD_lowBits (mask := 0x04) _ (by decide) hcoincidence hi) _ _

/-- Every byte after a tick with the LCD on that enters a mode. -/
theorem rawRead_ppuTick_of_entered {s : State} (hon : (s.rawRead 0xFF40).getLsbD 7 = true)
    (h : s.ppuMode ≠ s.shownMode) (b : Word) :
    s.ppuTick.rawRead b =
      if b = 0xFF41 then s.statAfter
      else if b = 0xFF0F then
        s.rawRead 0xFF0F ||| (if s.statRequest then 0x02 else 0x00) ||| (if s.ppuMode = .vblank then 0x01 else 0x00)
      else if b = 0xFF44 then byteOf (s.frameSync / 456 % 154)
      else s.rawRead b := by
  have hmem : s.ppuTick.rawRead b = (s.lineShown.transition s.shownMode s.ppuMode (scanlineOf s.frameSync)).rawRead b := by
    rw [ppuTick_of_entered hon h]
    rfl
  have hstat : s.lineShown.rawRead 0xFF41 = (s.rawRead 0xFF41 &&& 0xFB) ||| (if s.coincides then 0x04 else 0x00) :=
    rawRead_lineShown s 0xFF41
  have hif : s.lineShown.rawRead 0xFF0F = s.rawRead 0xFF0F := rawRead_lineShown s 0xFF0F
  rw [hmem, rawRead_transition, hstat, hif, statAfter_of_entered, statCondition_lineShown, rawRead_lineShown]
  by_cases hb : b = 0xFF41
  · rw [if_pos hb, if_pos hb]
  · simp only [if_neg hb]

/-- Every byte after a tick with the LCD on in which the mode stays. -/
theorem rawRead_ppuTick_of_same {s : State} (hon : (s.rawRead 0xFF40).getLsbD 7 = true) (h : s.ppuMode = s.shownMode)
    (b : Word) :
    s.ppuTick.rawRead b =
      if b = 0xFF41 then s.statAfter
      else if b = 0xFF44 then byteOf (s.frameSync / 456 % 154)
      else s.rawRead b := by
  have hmem : s.ppuTick.rawRead b = s.lineShown.rawRead b := by
    rw [ppuTick_of_same hon h]
    rfl
  rw [hmem, rawRead_lineShown, statAfter_of_same h]

/-- Settles O54: the LCD off by definition; the LCD on by whether the tick enters a mode. -/
theorem ppuTickOnMemory : Obligations.PpuTickOnMemory := by
  unfold Obligations.PpuTickOnMemory
  intro s
  refine ⟨fun hoff => ?off, fun hon => ?on⟩
  case off =>
    unfold State.ppuTick
    rw [if_neg (hoff ▸ Bool.false_ne_true)]
    rfl
  case on =>
    have hvblank : s.ppuMode = .vblank ↔ modeNumber s.frameSync = 1 := ppuMode_eq_iff s .vblank
    refine ⟨(ppuTick_eq s).trans (by rw [ppuTick_frameSync hon]), ?_⟩
    rw [ne_eq, ← ppuMode_eq_shownMode_iff]
    by_cases h : s.ppuMode = s.shownMode
    · have hread := rawRead_ppuTick_of_same hon h
      refine ⟨hread 0xFF44, hread 0xFF41, fun hne => absurd h hne, fun _ => hread 0xFF0F, fun a h44 h41 h0F => ?_⟩
      rw [hread, if_neg h41, if_neg h44]
    · have hread := rawRead_ppuTick_of_entered hon h
      refine ⟨hread 0xFF44, hread 0xFF41, fun _ => ?interrupts, fun heq => absurd h heq, fun a h44 h41 h0F => ?_⟩
      case interrupts =>
        rw [hread, if_neg (by decide), if_pos rfl, BitVec.or_assoc, BitVec.or_assoc]
        simp only [hvblank]
        rw [BitVec.or_comm (ite _ _ _)]
        rfl
      rw [hread, if_neg h41, if_neg h0F, if_neg h44]

end Sys2Proof.Machine
end

section
/-! One PPU tick in the frame buffers (R496, R498–R500): what entering each mode does to them. -/

namespace Sys2Proof.Machine

@[simp] theorem renderObjects_front (s : State) (ly : Nat) : (s.renderObjects ly).front = s.front := by
  unfold State.renderObjects
  split <;> rfl

@[simp] theorem renderObjects_bgIndex (s : State) (ly : Nat) : (s.renderObjects ly).bgIndex = s.bgIndex := by
  unfold State.renderObjects
  split <;> rfl

/-- The background pass draws its own line alone. -/
theorem renderBackground_cell_other (s : State) {ly y : Nat} (x : Nat) (h : y ≠ ly) :
    (s.renderBackground ly).back.cell x y = s.back.cell x y ∧
      (s.renderBackground ly).bgIndex.cell x y = s.bgIndex.cell x y :=
  ⟨cell_set_other _ _ x h, cell_set_other _ _ x h⟩

/-- So does the object pass. -/
theorem renderObjects_cell_other (s : State) {ly y : Nat} (x : Nat) (h : y ≠ ly) :
    (s.renderObjects ly).back.cell x y = s.back.cell x y := by
  unfold State.renderObjects
  split
  · rfl
  · exact cell_set_other _ _ x h

/-- A tick with the LCD on that enters a mode does so in a state that differs from its own in memory alone. -/
theorem exists_enterMode {s : State} (hon : (s.rawRead 0xFF40).getLsbD 7 = true) (h : s.ppuMode ≠ s.shownMode) :
    ∃ w, s.SameButMem w ∧
      s.ppuTick =
        { w.enterMode s.shownMode s.ppuMode (s.frameSync / 456 % 154) with frameSync := (s.frameSync + 4) % 70224 } :=
  ⟨s.lineShown.modeShown s.ppuMode, (sameButMem_lineShown s).modeShown s.ppuMode, ppuTick_of_entered hon h⟩

section

variable {s : State} (hon : (s.rawRead 0xFF40).getLsbD 7 = true)

include hon

/-- Entering VBLANK shows the drawn frame (R499). -/
theorem ppuTick_frames_of_vblank (hm : s.ppuMode = .vblank) (hold : s.shownMode ≠ .vblank) :
    s.ppuTick.front = s.back ∧ s.ppuTick.back = s.back ∧ s.ppuTick.bgIndex = s.bgIndex ∧
      s.ppuTick.windowLine = s.windowLine := by
  obtain ⟨w, hw, htick⟩ := exists_enterMode hon (hm.trans_ne hold.symm)
  rw [htick, hm, hw]
  exact ⟨rfl, rfl, rfl, rfl⟩

/-- Going from VBLANK to OAM_SEARCH clears the drawn frame and the window counter (R500). -/
theorem ppuTick_frames_of_newFrame (hm : s.ppuMode = .oamSearch) (hold : s.shownMode = .vblank) :
    s.ppuTick.windowLine = 0 ∧ s.ppuTick.back = blankFrame ∧ s.ppuTick.front = s.front ∧
      s.ppuTick.bgIndex = s.bgIndex := by
  obtain ⟨w, hw, htick⟩ := exists_enterMode hon (by rw [hm, hold]; decide)
  rw [htick, hm, hold, hw]
  exact ⟨rfl, rfl, rfl, rfl⟩

/-- Entering PIXEL_TRANSFER draws a line, of the memory as the tick leaves it, and shows nothing (R498). -/
theorem ppuTick_frames_of_pixelTransfer (hm : s.ppuMode = .pixelTransfer) (hold : s.shownMode ≠ .pixelTransfer) :
    let drawn := ({ s with mem := s.ppuTick.mem } : State).renderScanline (s.frameSync / 456 % 154)
    s.ppuTick.back = drawn.back ∧ s.ppuTick.bgIndex = drawn.bgIndex ∧ s.ppuTick.windowLine = drawn.windowLine ∧
      s.ppuTick.front = s.front := by
  obtain ⟨w, hw, htick⟩ := exists_enterMode hon (hm.trans_ne hold.symm)
  rw [hm] at htick
  have hmem : s.ppuTick.mem = w.mem := by
    rw [htick]
    exact renderObjects_mem (w.renderBackground (s.frameSync / 456 % 154)) (s.frameSync / 456 % 154)
  have hfront : w.front = s.front := by rw [hw]
  rw [hmem, ← hw, htick]
  exact ⟨rfl, rfl, rfl, (renderObjects_front (w.renderBackground (s.frameSync / 456 % 154)) _).trans hfront⟩

/-- Any other tick leaves the frame buffers and the window counter. -/
theorem ppuTick_frames_of_other (h : s.ppuMode = s.shownMode ∨ s.ppuMode = .hblank ∨
    (s.ppuMode = .oamSearch ∧ s.shownMode ≠ .vblank)) :
    s.ppuTick.front = s.front ∧ s.ppuTick.back = s.back ∧ s.ppuTick.bgIndex = s.bgIndex ∧
      s.ppuTick.windowLine = s.windowLine := by
  by_cases hsame : s.ppuMode = s.shownMode
  · rw [ppuTick_of_same hon hsame, sameButMem_lineShown s]
    exact ⟨rfl, rfl, rfl, rfl⟩
  · obtain ⟨w, hw, htick⟩ := exists_enterMode hon hsame
    have henter : w.enterMode s.shownMode s.ppuMode (s.frameSync / 456 % 154) = w := by
      rcases h with h | h | ⟨h, hold⟩
      · exact absurd h hsame
      · rw [h]; rfl
      · rw [h]; exact if_neg hold
    rw [htick, henter, hw]
    exact ⟨rfl, rfl, rfl, rfl⟩

end

/-- Settles O55: by the mode of the position and the mode that STAT shows. -/
theorem ppuTickOnFrames : Obligations.PpuTickOnFrames := by
  unfold Obligations.PpuTickOnFrames
  intro s hon ly m old
  refine ⟨fun hm hold => ?vblank, fun hm hold => ?newFrame, fun hm hold => ?pixelTransfer, fun h => ?other⟩
  case vblank =>
    exact ppuTick_frames_of_vblank hon ((ppuMode_eq_iff s .vblank).2 hm) (mt (shownMode_eq_iff s .vblank).1 hold)
  case newFrame =>
    obtain ⟨hwindow, hback, hfront, hindex⟩ :=
      ppuTick_frames_of_newFrame hon ((ppuMode_eq_iff s .oamSearch).2 hm) ((shownMode_eq_iff s .vblank).2 hold)
    exact ⟨hwindow, fun x y => hback ▸ cell_blankFrame x y, hfront, hindex⟩
  case pixelTransfer =>
    obtain ⟨hback, hindex, hwindow, hfront⟩ := ppuTick_frames_of_pixelTransfer hon
      ((ppuMode_eq_iff s .pixelTransfer).2 hm) (mt (shownMode_eq_iff s .pixelTransfer).1 hold)
    refine ⟨hback, hindex, hwindow, hfront, fun x y hy => ⟨?back, ?index⟩⟩
    case back =>
      rw [hback]
      exact (renderObjects_cell_other _ x hy).trans (renderBackground_cell_other _ x hy).1
    case index =>
      rw [hindex, State.renderScanline, renderObjects_bgIndex]
      exact (renderBackground_cell_other _ x hy).2
  case other =>
    refine ppuTick_frames_of_other hon ?_
    rwa [ppuMode_eq_shownMode_iff, ppuMode_eq_iff, ppuMode_eq_iff, ne_eq, shownMode_eq_iff]

end Sys2Proof.Machine
end

section
/-! The background and window pass (R503–R513): each pixel in the numbers of its tile map and tile. -/

namespace Sys2Proof.Machine

/-! ## Tiles and palettes in numbers -/

/-- A colour index is its two bits in numbers (R509, R519). -/
theorem toNat_colourIndex (b1 b2 : Byte) (bit : Nat) :
    (colourIndex b1 b2 bit).toNat = (b1.getLsbD bit).toNat + 2 * (b2.getLsbD bit).toNat := by
  unfold colourIndex
  cases b1.getLsbD bit <;> cases b2.getLsbD bit <;> rfl

/-- The shade of a colour index in a palette in numbers (R62, R510). -/
theorem toNat_paletteShade (palette : Byte) (ci : Shade) :
    (paletteShade palette ci).toNat = palette.toNat / 4 ^ ci.toNat % 4 := by
  rw [paletteShade, BitVec.truncate_eq_setWidth, BitVec.toNat_setWidth, BitVec.toNat_ushiftRight, Nat.shiftRight_eq_div_pow,
    Nat.pow_mul]

/-- `TilePixel` in numbers (R507–R509); addresses wrap (log entry 21). -/
theorem toNat_tilePixel (s : State) (map row col : Nat) (unsignedMode : Bool) :
    (s.tilePixel (BitVec.ofNat 16 map) row col unsignedMode).toNat = s.tileColour map row col unsignedMode := by
  have hmap : BitVec.ofNat 16 map + BitVec.ofNat 16 (row / 8 * 32 + col / 8) =
      BitVec.ofNat 16 (map + row / 8 * 32 + col / 8) := by
    rw [← BitVec.ofNat_add, Nat.add_assoc]
  have htile (idx : Byte) : tileAddr idx unsignedMode =
      BitVec.ofNat 16 (if unsignedMode then 0x8000 + idx.toNat * 16 else 0x8800 + (idx.toNat + 128) % 256 * 16) := by
    cases unsignedMode <;> exact (BitVec.ofNat_add ..).symm
  have hnext (a : Nat) : BitVec.ofNat 16 a + 1 = BitVec.ofNat 16 (a + 1) := (BitVec.ofNat_add ..).symm
  unfold State.tilePixel State.tileColour State.byteAt
  simp only [hmap, htile, ← BitVec.ofNat_add, hnext, toNat_colourIndex]

/-! ## One pixel -/

/-- Background and window are gated: LCDC bit 0 is clear, where the parameter makes it the gate (R512). -/
def State.backgroundGated (s : State) : Prop :=
  s.config.bgEnableGates = true ∧ (s.byteAt 0xFF40).getLsbD 0 = false

theorem backgroundGated_iff (s : State) :
    (s.config.bgEnableGates && !(s.rawRead 0xFF40).getLsbD 0) = true ↔ s.backgroundGated := by
  rw [Bool.and_eq_true, Bool.not_eq_true']
  rfl

theorem backgroundPixel_of_gated {s : State} (h : s.backgroundGated) (ly x : Nat) :
    s.backgroundPixel ly x = ⟨0, 0, false⟩ := by
  unfold State.backgroundPixel
  exact if_pos ((backgroundGated_iff s).2 h)

/-- Where they are not gated, a pixel has the colour index of the window or of the background, and its shade in BGP. -/
theorem backgroundPixel_of_not_gated {s : State} (h : ¬ s.backgroundGated) (ly x : Nat) :
    s.backgroundPixel ly x =
      let covered := windowAt (s.rawRead 0xFF40) ly x (s.rawRead 0xFF4A).toNat (s.rawRead 0xFF4B).toNat
      let unsignedMode := (s.rawRead 0xFF40).getLsbD 4
      let ci :=
        if covered then
          s.tilePixel (tileMap ((s.rawRead 0xFF40).getLsbD 6)) s.windowLine (x + 7 - (s.rawRead 0xFF4B).toNat) unsignedMode
        else
          s.tilePixel (tileMap ((s.rawRead 0xFF40).getLsbD 3)) ((ly + (s.rawRead 0xFF42).toNat) % 256)
            ((x + (s.rawRead 0xFF43).toNat) % 256) unsignedMode
      ⟨ci, paletteShade (s.rawRead 0xFF47) ci, covered⟩ := by
  unfold State.backgroundPixel
  simp only [if_neg (mt (backgroundGated_iff s).1 h)]
  split
  · next hcovered => rw [hcovered]
  · next hcovered => rw [eq_false_of_ne_true hcovered]

/-- `WindowAt` on signed integers (R504). -/
theorem windowAt_iff (s : State) (ly x : Nat) :
    windowAt (s.rawRead 0xFF40) ly x (s.rawRead 0xFF4A).toNat (s.rawRead 0xFF4B).toNat = true ↔
      (s.byteAt 0xFF40).getLsbD 5 = true ∧ (s.byteAt 0xFF4A).toNat ≤ ly ∧ ((s.byteAt 0xFF4B).toNat : Int) - 7 ≤ x := by
  have hx (wx : Nat) : wx ≤ x + 7 ↔ (wx : Int) - 7 ≤ x := by omega
  unfold windowAt
  rw [Bool.and_eq_true, Bool.and_eq_true, decide_eq_true_eq, decide_eq_true_eq, hx, and_assoc]
  rfl

theorem fromWindow_iff (s : State) (ly x : Nat) :
    s.fromWindow ly x ↔ ¬ s.backgroundGated ∧
      windowAt (s.rawRead 0xFF40) ly x (s.rawRead 0xFF4A).toNat (s.rawRead 0xFF4B).toNat = true := by
  rw [windowAt_iff, State.fromWindow, State.backgroundGated, not_and, Bool.not_eq_false]

/-- A pixel comes from the window exactly where the window covers it (R504, R512). -/
theorem backgroundPixel_fromWindow_iff (s : State) (ly x : Nat) :
    (s.backgroundPixel ly x).fromWindow = true ↔ s.fromWindow ly x := by
  rw [fromWindow_iff]
  by_cases h : s.backgroundGated
  · simp [backgroundPixel_of_gated h, h]
  · simp [backgroundPixel_of_not_gated h, h]

/-- The shade of a pixel that is not gated is that of its colour index in BGP (R510). -/
theorem backgroundPixel_shade {s : State} (h : ¬ s.backgroundGated) (ly x : Nat) :
    (s.backgroundPixel ly x).shade.toNat =
      (s.byteAt 0xFF47).toNat / 4 ^ (s.backgroundPixel ly x).index.toNat % 4 := by
  rw [backgroundPixel_of_not_gated h, toNat_paletteShade]
  rfl

theorem tileMap_eq (selected : Bool) : tileMap selected = BitVec.ofNat 16 (if selected then 0x9C00 else 0x9800) := by
  cases selected <;> rfl

/-- The colour index of a pixel of the window in numbers. -/
theorem backgroundPixel_index_of_window {s : State} {ly x : Nat} (h : s.fromWindow ly x) :
    (s.backgroundPixel ly x).index.toNat =
      s.tileColour (if (s.byteAt 0xFF40).getLsbD 6 then 0x9C00 else 0x9800) s.windowLine
        ((x : Int) - ((s.byteAt 0xFF4B).toNat - 7)).toNat ((s.byteAt 0xFF40).getLsbD 4) := by
  obtain ⟨hgate, hcovered⟩ := (fromWindow_iff s ly x).1 h
  have hcol (wx : Nat) : ((x : Int) - (wx - 7)).toNat = x + 7 - wx := by omega
  rw [backgroundPixel_of_not_gated hgate, hcol, ← toNat_tilePixel, ← tileMap_eq]
  simp only [if_pos hcovered]
  rfl

/-- The colour index of a pixel of the background in numbers. -/
theorem backgroundPixel_index_of_background {s : State} {ly x : Nat} (hgate : ¬ s.backgroundGated)
    (h : ¬ s.fromWindow ly x) :
    (s.backgroundPixel ly x).index.toNat =
      s.tileColour (if (s.byteAt 0xFF40).getLsbD 3 then 0x9C00 else 0x9800) ((ly + (s.byteAt 0xFF42).toNat) % 256)
        ((x + (s.byteAt 0xFF43).toNat) % 256) ((s.byteAt 0xFF40).getLsbD 4) := by
  rw [fromWindow_iff, not_and] at h
  rw [backgroundPixel_of_not_gated hgate, ← toNat_tilePixel, ← tileMap_eq]
  simp only [if_neg (h hgate)]
  rfl

/-! ## The line -/

/-- A cell of a line that is made pixel by pixel. -/
theorem cell_set_map_range (frame : Frame) {ly : Nat} (f : Nat → Pixel) (g : Pixel → Shade) {x n : Nat}
    (hly : ly < frame.length) (hx : x < n) : Frame.cell (frame.set ly (((List.range n).map f).map g)) x ly = g (f x) := by
  rw [cell_set_same _ _ x hly]
  simp [hx]

/-- Settles O56: a pixel is gated, or comes from the window, or from the background. -/
theorem backgroundAndWindowPixels : Obligations.BackgroundAndWindowPixels := by
  unfold Obligations.BackgroundAndWindowPixels
  intro s ly _ hindex hback
  refine ⟨fun x hx => ?pixel, ?window⟩
  case pixel =>
    have hcell : (s.renderBackground ly).bgIndex.cell x ly = (s.backgroundPixel ly x).index :=
      cell_set_map_range s.bgIndex _ _ hindex hx
    have hcell' : (s.renderBackground ly).back.cell x ly = (s.backgroundPixel ly x).shade :=
      cell_set_map_range s.back _ _ hback hx
    rw [hcell, hcell']
    by_cases hgate : s.backgroundGated
    · have hgate' : s.config.bgEnableGates = true ∧ (s.byteAt 0xFF40).getLsbD 0 = false := hgate
      simp only [if_pos hgate', backgroundPixel_of_gated hgate]
      exact ⟨rfl, rfl⟩
    · have hgate' : ¬ (s.config.bgEnableGates = true ∧ (s.byteAt 0xFF40).getLsbD 0 = false) := hgate
      simp only [if_neg hgate', backgroundPixel_shade hgate]
      by_cases hwindow : s.fromWindow ly x
      · simp only [if_pos hwindow, backgroundPixel_index_of_window hwindow, and_self]
      · simp only [if_neg hwindow, backgroundPixel_index_of_background hgate hwindow, and_self]
  case window =>
    have hany : ((List.range 160).map (s.backgroundPixel ly)).any Pixel.fromWindow = true ↔
        ∃ x, x < 160 ∧ s.fromWindow ly x := by
      simp [← backgroundPixel_fromWindow_iff]
    by_cases h : ∃ x, x < 160 ∧ s.fromWindow ly x
    · exact (if_pos (hany.2 h)).trans (if_pos h).symm
    · exact (if_neg (mt hany.1 h)).trans (if_neg h).symm

end Sys2Proof.Machine
end

section
/-! Objects (R514–R522): which entries of OAM a line has, in which order they are drawn, and one of them column by column. -/

namespace Sys2Proof.Machine

/-- Byte `k` of OAM entry `n`, by its address in numbers (R514). -/
theorem oam_eq_byteAt (s : State) (n k : Nat) : s.oam n k = s.byteAt (0xFE00 + k + 4 * n) := by
  have haddr : (0xFE00 : Word) + BitVec.ofNat 16 (4 * n + k) = BitVec.ofNat 16 (0xFE00 + k + 4 * n) := by
    rw [Nat.add_assoc, Nat.add_comm k, BitVec.ofNat_add 0xFE00]
    rfl
  exact congrArg s.rawRead haddr

theorem oam_x (s : State) (n : Nat) : (s.oam n 1).toNat = s.objX n := congrArg BitVec.toNat (oam_eq_byteAt s n 1)

/-! ## The selection -/

theorem onLine_iff (s : State) (ly h n : Nat) :
    s.onLine ly h n ↔
      (decide ((s.oam n 0).toNat ≤ ly + 16) && decide (ly + 16 < (s.oam n 0).toNat + h)) = true := by
  rw [Bool.and_eq_true, decide_eq_true_eq, decide_eq_true_eq, oam_eq_byteAt]
  rfl

/-- The entries of OAM on a line, in OAM order (R516). -/
def State.entriesOnLine (s : State) (ly h : Nat) : List Nat :=
  (List.range 40).filter
    (fun n => decide ((s.oam n 0).toNat ≤ ly + 16) && decide (ly + 16 < (s.oam n 0).toNat + h))

theorem mem_entriesOnLine (s : State) (ly h n : Nat) : n ∈ s.entriesOnLine ly h ↔ n < 40 ∧ s.onLine ly h n := by
  rw [State.entriesOnLine, List.mem_filter, List.mem_range, ← onLine_iff]

theorem entriesOnLine_pairwise (s : State) (ly h : Nat) : (s.entriesOnLine ly h).Pairwise (· < ·) :=
  List.pairwise_lt_range.filter _

/-- The first ten of a rising list: what stands after them is higher than each of them. -/
theorem mem_take_or_gt {l : List Nat} (hl : l.Pairwise (· < ·)) (k : Nat) {n : Nat} (hn : n ∈ l) :
    n ∈ l.take k ∨ ((l.take k).length = k ∧ ∀ m ∈ l.take k, m < n) := by
  rw [← List.take_append_drop k l] at hl hn
  obtain hn | hn := List.mem_append.1 hn
  · exact .inl hn
  · have hk : k ≤ l.length := (List.length_lt_of_drop_ne_nil (List.ne_nil_of_mem hn)).le
    exact .inr ⟨List.length_take_of_le hk, fun m hm => (List.pairwise_append.1 hl).2.2 m hm n hn⟩

/-! ## The order -/

/-- The key of the drawing order: the higher X first, and of one X the higher entry (R518). -/
theorem drawnBefore_iff (s : State) (m n : Nat) :
    s.drawnBefore m n = true ↔ s.objX n < s.objX m ∨ (s.objX m = s.objX n ∧ n < m) := by
  unfold State.drawnBefore
  rw [Bool.or_eq_true, Bool.and_eq_true, decide_eq_true_eq, decide_eq_true_eq, beq_iff_eq, ← BitVec.toNat_inj, oam_x, oam_x]

theorem drawnBefore_trans {s : State} {k m n : Nat} (h1 : s.drawnBefore k m = true) (h2 : s.drawnBefore m n = true) :
    s.drawnBefore k n = true := by
  rw [drawnBefore_iff] at *
  omega

theorem drawnBefore_total {s : State} {m n : Nat} (hne : m ≠ n) (h : ¬ s.drawnBefore n m = true) :
    s.drawnBefore m n = true := by
  rw [drawnBefore_iff] at *
  omega

theorem insertDrawn_perm (s : State) (n : Nat) (l : List Nat) : (s.insertDrawn n l).Perm (n :: l) := by
  induction l with
  | nil => exact .refl _
  | cons m rest ih =>
    unfold State.insertDrawn
    split
    · exact .refl _
    · exact (ih.cons m).trans (.swap n m rest)

theorem insertDrawn_pairwise {s : State} {n : Nat} {l : List Nat} (hl : l.Pairwise (s.drawnBefore · · = true))
    (hn : n ∉ l) : (s.insertDrawn n l).Pairwise (s.drawnBefore · · = true) := by
  induction l with
  | nil => exact List.pairwise_singleton _ _
  | cons m rest ih =>
    obtain ⟨hm, hrest⟩ := List.pairwise_cons.1 hl
    obtain ⟨hne, hnrest⟩ := not_or.1 (mt List.mem_cons.2 hn)
    unfold State.insertDrawn
    split
    · next hfirst =>
      refine List.pairwise_cons.2 ⟨fun k hk => ?_, hl⟩
      obtain rfl | hk := List.mem_cons.1 hk
      · exact hfirst
      · exact drawnBefore_trans hfirst (hm k hk)
    · next hlater =>
      refine List.pairwise_cons.2 ⟨fun k hk => ?_, ih hrest hnrest⟩
      obtain rfl | hk := List.mem_cons.1 ((insertDrawn_perm s n rest).mem_iff.1 hk)
      · exact drawnBefore_total (Ne.symm hne) hlater
      · exact hm k hk

/-- The drawing order rearranges the entries. -/
theorem drawOrder_perm (s : State) (l : List Nat) : (s.drawOrder l).Perm l := by
  induction l with
  | nil => exact .refl _
  | cons n l ih => exact (insertDrawn_perm s n _).trans (ih.cons n)

/-- And puts each before those of lower key. -/
theorem drawOrder_pairwise (s : State) {l : List Nat} (hl : l.Nodup) :
    (s.drawOrder l).Pairwise (s.drawnBefore · · = true) := by
  induction l with
  | nil => exact .nil
  | cons n l ih =>
    obtain ⟨hn, hl⟩ := List.nodup_cons.1 hl
    exact insertDrawn_pairwise (ih hl) (mt (drawOrder_perm s l).mem_iff.1 hn)

theorem onScreen_iff (s : State) (n : Nat) : s.onScreen n = true ↔ 0 < s.objX n ∧ s.objX n < 168 := by
  unfold State.onScreen
  rw [Bool.and_eq_true, decide_eq_true_eq, decide_eq_true_eq, oam_x]

/-- Settles O57: the pass by definition; the selection begins a rising list, the order a sorted rearrangement. -/
theorem objectSelectionAndOrder : Obligations.ObjectSelectionAndOrder := by
  unfold Obligations.ObjectSelectionAndOrder
  refine ⟨fun s ly => ?pass, fun s ly h => ⟨⟨?cap, ?rising, fun n hn => ?sound, fun n hn hline => ?complete⟩,
    fun n => ?drawn, ?order⟩⟩
  case pass =>
    have hgate : (s.config.objEnableGates && !(s.rawRead 0xFF40).getLsbD 1) = true ↔
        s.config.objEnableGates = true ∧ (s.byteAt 0xFF40).getLsbD 1 = false := by
      rw [Bool.and_eq_true, Bool.not_eq_true']
      rfl
    unfold State.renderObjects
    exact if_congr hgate rfl rfl
  case cap => exact List.length_take_le 10 _
  case rising => exact (entriesOnLine_pairwise s ly h).sublist (List.take_sublist 10 _)
  case sound => exact (mem_entriesOnLine s ly h n).1 (List.mem_of_mem_take hn)
  case complete => exact mem_take_or_gt (entriesOnLine_pairwise s ly h) 10 ((mem_entriesOnLine s ly h n).2 ⟨hn, hline⟩)
  case drawn => rw [(drawOrder_perm s _).mem_iff, List.mem_filter, onScreen_iff]
  case order =>
    have hrising := (entriesOnLine_pairwise s ly h).sublist (List.take_sublist 10 _)
    have hnodup : ((s.verticalSelect ly h).filter s.onScreen).Nodup := (hrising.imp ne_of_lt).filter _
    exact (drawOrder_pairwise s hnodup).imp (drawnBefore_iff s _ _).1

/-! ## One object -/

/-- Whether an object whose byte 3 is `attr` shows at column `x` with colour index `ci`: it is not transparent there, and
not below a background of nonzero index (R520, R521). -/
@[reducible] def objectShows (bgLine : Line) (attr : Byte) (x : Nat) (ci : Shade) : Prop :=
  ci ≠ 0 ∧ ¬ (attr.getLsbD 7 = true ∧ bgLine.getD x 0 ≠ 0)

/-- The colour index of column `c` of an object's tile line, flipped as bit 5 of its byte 3 says (R519). -/
def columnIndex (b1 b2 attr : Byte) (c : Nat) : Shade := colourIndex b1 b2 (if attr.getLsbD 5 then c else 7 - c)

/-- Drawing column `c` of an object sets one cell, where the column is on the screen and the object shows there. -/
theorem drawColumn_eq (bgLine : Line) (b1 b2 attr pal : Byte) (xo : Nat) (line : Line) (c : Nat) :
    drawColumn bgLine b1 b2 attr pal xo line c =
      if (8 ≤ xo + c ∧ xo + c < 168) ∧ objectShows bgLine attr (xo + c - 8) (columnIndex b1 b2 attr c) then
        line.set (xo + c - 8) (paletteShade pal (columnIndex b1 b2 attr c))
      else line := by
  unfold drawColumn
  by_cases hout : xo + c < 8 ∨ xo + c - 8 > 159
  · rw [if_pos hout, if_neg (by omega)]
  · have hin : 8 ≤ xo + c ∧ xo + c < 168 := by omega
    rw [if_neg hout]
    change (if columnIndex b1 b2 attr c = 0 then line else _) = _
    simp only [hin, true_and, and_self, objectShows, ite_not, ite_and, ne_eq]
    rfl

section

variable (bgLine : Line) (b1 b2 attr pal : Byte) (xo : Nat) {x : Nat} (hx : x < 160)

include hx

/-- So column `x` of the line changes with the object's column there alone. -/
theorem getD_drawColumn (line : Line) (hline : line.length = 160) (c : Nat) :
    (drawColumn bgLine b1 b2 attr pal xo line c).getD x 0 =
      if x + 8 = xo + c ∧ objectShows bgLine attr x (columnIndex b1 b2 attr c) then
        paletteShade pal (columnIndex b1 b2 attr c)
      else line.getD x 0 := by
  rw [drawColumn_eq]
  by_cases hc : x + 8 = xo + c
  · have hat : xo + c - 8 = x := by omega
    have hin : 8 ≤ xo + c ∧ xo + c < 168 := by omega
    simp only [hat, hin, hc, true_and, and_self]
    split
    · simp [List.getD, hline, hx]
    · rfl
  · simp only [hc, false_and, if_false]
    split
    · next h =>
      have hne : xo + c - 8 ≠ x := by omega
      simp [List.getD, hne]
    · rfl

/-- The first `n` columns of an object (R519). -/
theorem getD_drawColumns (line : Line) (hline : line.length = 160) (n : Nat) :
    ((List.range n).foldl (drawColumn bgLine b1 b2 attr pal xo) line).getD x 0 =
      if (xo ≤ x + 8 ∧ x + 8 < xo + n) ∧ objectShows bgLine attr x (columnIndex b1 b2 attr (x + 8 - xo)) then
        paletteShade pal (columnIndex b1 b2 attr (x + 8 - xo))
      else line.getD x 0 := by
  have hlength (n : Nat) : ((List.range n).foldl (drawColumn bgLine b1 b2 attr pal xo) line).length = 160 :=
    List.foldlRecOn (motive := fun l : Line => l.length = 160) _ _ hline
      (fun l hl c _ => (drawColumn_length bgLine b1 b2 attr pal xo l c).trans hl)
  induction n with
  | zero => exact (if_neg (by omega)).symm
  | succ n ih =>
    rw [List.range_succ, List.foldl_append, List.foldl_cons, List.foldl_nil,
      getD_drawColumn bgLine b1 b2 attr pal xo hx _ (hlength n), ih]
    by_cases hc : x + 8 = xo + n
    · have hat : x + 8 - xo = n := by omega
      have hnew : x + 8 = xo + n ↔ True := iff_true_intro hc
      have hbefore : (xo ≤ x + 8 ∧ x + 8 < xo + n) ↔ False := iff_false_intro (by omega)
      have hnow : (xo ≤ x + 8 ∧ x + 8 < xo + (n + 1)) ↔ True := iff_true_intro (by omega)
      simp only [hat, hnew, hbefore, hnow, true_and, false_and, if_false]
    · have hnow : (xo ≤ x + 8 ∧ x + 8 < xo + (n + 1)) ↔ (xo ≤ x + 8 ∧ x + 8 < xo + n) := by omega
      simp only [hc, hnow, false_and, if_false]

end

/-- The address of the line of an object's tile in numbers: the tile pair of 8x16 mode, the row flipped as bit 6 of its
byte 3 says (R519). -/
def State.objectLine (s : State) (ly h n : Nat) : Nat :=
  let tile := (s.byteAt (0xFE02 + 4 * n)).toNat
  let top := ly + 16 - (s.byteAt (0xFE00 + 4 * n)).toNat
  let row := if (s.byteAt (0xFE03 + 4 * n)).getLsbD 6 then h - 1 - top else top
  0x8000 + (if h = 16 then tile / 2 * 2 else tile) * 16 + 2 * row

/-- An object is its eight columns, from the two bytes of its tile line (R519). -/
theorem drawObject_eq (s : State) (ly h : Nat) (bgLine line : Line) (n : Nat) :
    s.drawObject ly h bgLine line n =
      (List.range 8).foldl
        (drawColumn bgLine (s.byteAt (s.objectLine ly h n)) (s.byteAt (s.objectLine ly h n + 1))
          (s.byteAt (0xFE03 + 4 * n)) (s.byteAt (if (s.byteAt (0xFE03 + 4 * n)).getLsbD 4 then 0xFF49 else 0xFF48))
          (s.objX n)) line := by
  have hpair (tile : Byte) :
      (if h = 16 then tile &&& 0xFE else tile).toNat = if h = 16 then tile.toNat / 2 * 2 else tile.toNat := by
    have hmask : ∀ v : Byte, (v &&& 0xFE).toNat = v.toNat / 2 * 2 := by decide
    rw [apply_ite BitVec.toNat, hmask]
  have haddr (t r : Nat) :
      (0x8000 : Word) + BitVec.ofNat 16 (t * 16 + 2 * r) = BitVec.ofNat 16 (0x8000 + t * 16 + 2 * r) := by
    rw [Nat.add_assoc, BitVec.ofNat_add 0x8000]
    rfl
  have hnext (k : Nat) : BitVec.ofNat 16 k + 1 = BitVec.ofNat 16 (k + 1) := (BitVec.ofNat_add ..).symm
  have hpalette (b : Bool) :
      (if b then s.rawRead 0xFF49 else s.rawRead 0xFF48) = s.byteAt (if b then 0xFF49 else 0xFF48) := by
    cases b <;> rfl
  unfold State.drawObject
  simp only [oam_eq_byteAt, hpair, haddr, hnext, hpalette]
  rfl

/-- Settles O58: column `x` after the eight columns of the object. -/
theorem objectColumns : Obligations.ObjectColumns := by
  unfold Obligations.ObjectColumns
  intro s ly h bgLine line n x hx hline _ y xo tile attr row a c bit colour palette
  have hcolour : (columnIndex (s.byteAt a) (s.byteAt (a + 1)) attr c).toNat = colour := toNat_colourIndex _ _ _
  have hshows : objectShows bgLine attr x (columnIndex (s.byteAt a) (s.byteAt (a + 1)) attr c) ↔
      colour ≠ 0 ∧ ¬ (attr.getLsbD 7 = true ∧ bgLine.getD x 0 ≠ 0) := by
    rw [objectShows, ← hcolour, ne_eq, ← BitVec.toNat_inj]
    rfl
  rw [drawObject_eq, getD_drawColumns _ _ _ _ _ _ hx line hline, apply_ite BitVec.toNat, toNat_paletteShade]
  refine if_congr ((and_congr_right' hshows).trans and_assoc) ?_ rfl
  exact congrArg (fun k => palette / 4 ^ k % 4) hcolour

end Sys2Proof.Machine
end
